-- ==== Sys2Proof/Word.lean ====
section
/-! DEFINITION. The word types of the machine (00_scope.md R7, R8). -/

namespace Sys2Proof

/-- A 32-bit word: r registers, addresses, pc, npc, instruction words (R6 XLEN). -/
abbrev Word := BitVec 32

/-- The unit of addressing (R80). -/
abbrev Byte := BitVec 8

/-- The number of a register as an instruction names it (R20, R55). -/
abbrev RegNum := BitVec 5

/-- An address space identifier (R80). -/
abbrev Asi := BitVec 8

/-- A window number: NWINDOWS is 8, so three bits hold every legal one and wrap as R23 says. -/
abbrev WindowNum := BitVec 3

/-- One bit as a word (the carry-in of R262). -/
def boolWord (b : Bool) : Word := if b then 1#32 else 0#32

end Sys2Proof
end

