-- ==== Sys2Proof/Config.lean ====
section
/-! DEFINITION. What an implementation fixes (00_scope.md R6), what the memory system permits (20_memory.md R92, R93), and the
free values of what the spec leaves open: constants without a body. -/

namespace Sys2Proof

/-- NWINDOWS of R6. -/
def nWindows : Nat := 8

/-- WRITE_DELAY of R6: instructions after a state-register write in which the written fields must not be used. -/
def writeDelay : Nat := 3

/-- ASR_DECODE of R6. -/
inductive AsrDecode where
  | table
  | ignore
deriving DecidableEq, Repr

/-- FLUSH_MODE of R6. -/
inductive FlushMode where
  | icache
  | nop
  | trap
deriving DecidableEq, Repr

/-- ODD_RD of R6. -/
inductive OddRd where
  | refuse
  | illegalInstruction
  | forceEven
deriving DecidableEq, Repr

/-- A range of addresses in a range of address spaces (R92). -/
structure Region where
  asiLow : Nat
  asiHigh : Nat
  base : Nat
  size : Nat
deriving DecidableEq, Repr

/-- The kinds of access `access_ok` is asked about (R93). -/
inductive AccessKind where
  | read
  | write
  | execute
  | atomic
deriving DecidableEq, Repr

/-- One row of the table that answers `access_ok(asi, addr, n, kind)` (R93): accesses of one of these kinds and sizes
whose address is in the region get this answer. The first row that fits an access decides (log 2). -/
structure AccessRule where
  region : Region
  kinds : List AccessKind
  sizes : List Nat
  permitted : Bool
deriving DecidableEq, Repr

/-- The parameters of R6. They are data of the machine, written by no step (log 1). -/
structure Config where
  /-- HAS_FPU -/
  hasFpu : Bool
  /-- HAS_CP -/
  hasCp : Bool
  /-- HAS_HYPERSPARC_ASR -/
  hasHyperSparcAsr : Bool
  /-- ASR_DECODE -/
  asrDecode : AsrDecode
  /-- PRIV_BEFORE_ILLEGAL -/
  privBeforeIllegal : Bool
  /-- PSR_IMPL -/
  psrImpl : BitVec 4
  /-- PSR_VER -/
  psrVer : BitVec 4
  /-- FSR_VER -/
  fsrVer : BitVec 3
  /-- QUAD_FP -/
  quadFp : Bool
  /-- FLUSH_MODE -/
  flushMode : FlushMode
  /-- ODD_RD -/
  oddRd : OddRd
  /-- ICCR_FTD_BIT -/
  iccrFtdBit : Fin 32
  /-- ICCR_RESET -/
  iccrReset : Word
  /-- ERROR_MODE_RESETS -/
  errorModeResets : Bool
  /-- Whether the FPU may decline an operand case with ftt = 2 (R414, log 17). -/
  fpuMayDecline : Bool
  /-- `access_ok` of R93, as a table; an access that no row fits is refused (R162). -/
  access : List AccessRule
  /-- The devices of the platform's memory map (R92); every other address is ordinary memory. -/
  devices : List Region
deriving DecidableEq, Repr

/-- Every address of ASIs 0x08 to 0x0B (R81). -/
def standardRegion : Region := { asiLow := 8, asiHigh := 11, base := 0, size := 2 ^ 32 }

/-- The default answer of `access_ok` (D15, D18, log 2): yes in ASIs 0x08 to 0x0B, no in the others. -/
def defaultAccess : List AccessRule :=
  [{ region := standardRegion, kinds := [.read, .write, .execute, .atomic], sizes := [1, 2, 4, 8], permitted := true }]

/-- The defaults of R6 (a hyperSPARC uniprocessor, D1), with the model's choices where R6 gives none
(logs 5, 7, 17). -/
def defaultConfig : Config where
  hasFpu := true
  hasCp := false
  hasHyperSparcAsr := true
  asrDecode := .table
  privBeforeIllegal := true
  psrImpl := 0#4
  psrVer := 0#4
  fsrVer := 0#3
  quadFp := false
  flushMode := .icache
  oddRd := .refuse
  iccrFtdBit := 1
  iccrReset := 0#32
  errorModeResets := false
  fpuMayDecline := false
  access := defaultAccess
  devices := []

/-- Which register operand of an instruction an access is made for: each access is a use of its own (R570). -/
inductive Slot where
  | rs1
  | rs2
  | rd
  | rdOdd
  /-- r[rd] as the word that SWAP stores, apart from its write of r[rd] (R244) -/
  | rdStored
deriving DecidableEq, Repr

/-- The uses at which a step may draw an unpredictable value (R570 to R575, R98, R320, R592(e)). One step draws
each use independently. -/
inductive FreeUse where
  | cwpOf (slot : Slot)
  | cwpWindow
  | icc
  | supervisorCheck
  | fetchSpace
  | dataSpace
  | enableFp
  | enableCp
  | prevSupervisor
  | enableTrapsRett
  | enableTrapsTrap
  | enableTrapsInterrupt
  | interruptLevel
  | psrRead
  | wimTest
  | wimRead
  | tbaTrap
  | tbaRead
  | yUse
  | yAfterDivide
  | diagRead
  | iccrRead
  | flushTrapDisabled
  | staleFetch
  | deviceByte (fetch : Bool) (key : Nat)
  | fpuDeclines
  | cpEmptyQueue (instr : Bool)
deriving DecidableEq, Repr

/-- The free value of width `w` that the environment supplies for `use` in the step numbered `draw` (R592(e)):
nothing constrains it (log 8). -/
opaque Config.freeBits (w : Nat) (draw : Nat) (use : FreeUse) : BitVec w

/-- One free bit. -/
def freeBit (draw : Nat) (use : FreeUse) : Bool := Config.freeBits 1 draw use == 1#1

/-- Arithmetic of an FPop with FSR.NS = 1, which R414(a) leaves to the implementation (log 16): from opf, FSR.RD and
the operands, the result (for a compare, the fcc in its low two bits) and the exceptions in the order of cexc. -/
opaque Config.nonstandardFp (opf : BitVec 9) (rounding : BitVec 2) (a b : BitVec 128) : BitVec 128 × BitVec 5

/-- An entry of the floating-point queue or of the coprocessor queue: the address of an operate instruction and its
word (R58, R60). -/
structure QueueEntry where
  addr : Word
  instr : Word
deriving DecidableEq, Repr, Inhabited

/-- The external coprocessor of R60 as the IU sees it. -/
structure Coprocessor where
  /-- c[0..31] -/
  c : Vector Word 32
  /-- CSR -/
  csr : Word
  /-- the 2-bit condition that CBccc tests (R346) -/
  ccc : BitVec 2
  /-- CQ, front first -/
  queue : List QueueEntry
  /-- a coprocessor exception is pending (R202) -/
  pending : Bool
deriving DecidableEq, Repr, Inhabited

/-- `coprocessor_operate(word)` of R460: what the coprocessor does with an operate instruction (log 24). -/
opaque Config.cpOperate (draw : Nat) (word : Word) (cp : Coprocessor) : Coprocessor

/-- The coprocessor after a trap that R202 leaves to it: "the state of the coprocessor depends on the particular
implementation" (log 24). -/
opaque Config.cpAfterTrap (draw : Nat) (cp : Coprocessor) : Coprocessor

/-- The coprocessor queue after STDCQ has stored its front entry, which R221 leaves to the coprocessor (log 24). -/
opaque Config.cpQueueAfterStore (draw : Nat) (queue : List QueueEntry) : List QueueEntry

end Sys2Proof
end

