-- ==== Sys2Proof/Machine/State.lean ====
section
/-! DEFINITION. The state of one processor and its memory (10_state.md R20 to R75, 20_memory.md R80 to R98), and the
state after reset (R70). Plain data. -/

namespace Sys2Proof.Machine

/-- Why the machine stops. -/
inductive Fault where
  /-- Raised by the step alone, in error mode with no reset to come: "executes nothing more" (R525). Safe. -/
  | errorMode
deriving DecidableEq, Repr

/-- Why the model gives no behaviour. -/
inductive Refusal where
  /-- No meaning yet for the instruction named; raised by an arm of exec alone. Safe. -/
  | notModelled (mnemonic : String)
  /-- An odd or misaligned register number under ODD_RD = refuse (R26, R413); raised by the doubleword loads and
  stores and the double and quad FPops. Safe. -/
  | oddRegister
  /-- WRPSR clears EF while the FPU holds an exception: "the behavior is undefined" (R417, R574(c)). Safe. -/
  | fpuDisabledWhileBusy
deriving DecidableEq, Repr

/-- The integer condition codes (R35). -/
structure Icc where
  n : Bool
  z : Bool
  v : Bool
  c : Bool
deriving DecidableEq, Repr

/-- The stored fields of the PSR (R40). impl and ver are parameters of cfg; the reserved bits read as zero. -/
structure Psr where
  icc : Icc
  ec : Bool
  ef : Bool
  pil : BitVec 4
  s : Bool
  ps : Bool
  et : Bool
  cwp : WindowNum
deriving DecidableEq, Repr

/-- The stored fields of the TBR (R46); bits 3:0 are always zero. -/
structure Tbr where
  tba : BitVec 20
  tt : BitVec 8
deriving DecidableEq, Repr

/-- The stored fields of the FSR (R56). ver is a parameter of cfg and qne is read from the queue (R57). -/
structure Fsr where
  rd : BitVec 2
  tem : BitVec 5
  ns : Bool
  ftt : BitVec 3
  fcc : BitVec 2
  aexc : BitVec 5
  cexc : BitVec 5
deriving DecidableEq, Repr

/-- The mode of the FPU (R59). -/
inductive FpuMode where
  | execute
  | exceptionPending
  | exception
deriving DecidableEq, Repr

/-- The floating-point unit (R55 to R59). -/
structure Fpu where
  f : Vector Word 32
  fsr : Fsr
  /-- FQ, front first -/
  queue : List QueueEntry
  mode : FpuMode
deriving DecidableEq, Repr

/-- wr_delay[PSR] (R62, R570): the count, which fields are being modified, and for PIL and ET the values that R513
lets the interrupt condition still use. An empty list means the field is not being modified. -/
structure PsrDelay where
  count : Nat
  icc : Bool
  ec : Bool
  ef : Bool
  s : Bool
  ps : Bool
  cwp : Bool
  oldEt : List Bool
  oldPil : List (BitVec 4)
deriving DecidableEq, Repr

/-- wr_delay[WIM] (R571): the count and the bits being modified. -/
structure WimDelay where
  count : Nat
  mask : BitVec 8
deriving DecidableEq, Repr

/-- wr_delay[TBR] (R572): the count and the values of TBA that a trap may still use. -/
structure TbrDelay where
  count : Nat
  oldTba : List (BitVec 20)
deriving DecidableEq, Repr

/-- wr_delay of Y, of DIAG (R573, R575): the count, and whether the register is being modified. -/
structure RegDelay where
  count : Nat
  masked : Bool
deriving DecidableEq, Repr

/-- wr_delay of ICCR (R575): as RegDelay, and whether the FTD bit is being modified. -/
structure IccrDelay where
  count : Nat
  masked : Bool
  ftd : Bool
deriving DecidableEq, Repr

/-- wr_delay (R62). A field is masked only while its count is not 0. -/
structure Delays where
  psr : PsrDelay
  wim : WimDelay
  tbr : TbrDelay
  y : RegDelay
  diag : RegDelay
  iccr : IccrDelay
deriving DecidableEq, Repr

/-- No delayed write under way. -/
def noDelays : Delays where
  psr := { count := 0, icc := false, ec := false, ef := false, s := false, ps := false, cwp := false,
           oldEt := [], oldPil := [] }
  wim := { count := 0, mask := 0#8 }
  tbr := { count := 0, oldTba := [] }
  y := { count := 0, masked := false }
  diag := { count := 0, masked := false }
  iccr := { count := 0, masked := false, ftd := false }

/-- `mode` of R62. -/
inductive RunMode where
  | run
  | error
deriving DecidableEq, Repr

/-- The inputs that the processor sees at a step boundary (R62, R592(a), (b)). -/
structure Inputs where
  irl : BitVec 4
  resetReq : Bool
deriving DecidableEq, Repr

/-- A store to shared memory by another processor or a device (R592(d)). A half-word is named by its address over 2, a
word by its address over 4: the stores of R87 are aligned. -/
inductive OutsideStore where
  | byte (asi : Asi) (addr : Word) (v : Byte)
  | half (asi : Asi) (index : BitVec 31) (v : BitVec 16)
  | word (asi : Asi) (index : BitVec 30) (v : Word)
deriving DecidableEq, Repr

/-- What the environment does at one step boundary (R592): the inputs from then on, and the stores that other agents
have made since the boundary before, in their order in memory (R95). -/
structure Move where
  inputs : Inputs
  stores : List OutsideStore
deriving DecidableEq, Repr

/-- A possibly stale instruction word (R98): its word address and a value a fetch may still return. -/
structure StaleWord where
  addr : Word
  old : Word
deriving DecidableEq, Repr

/-- Memory as (key, byte) pairs, keys strictly rising, no byte equal to what an unlisted key reads as. -/
abbrev Memory := List Host.Cell

/-- The state of the machine. -/
structure State where
  /-- the 136 physical r registers of R20: cells 0 to 7 the globals (cell 0, r[0], is never read), cell 8 + k is
  W[k] of R22 -/
  regs : Vector Word 136
  pc : Word
  npc : Word
  annul : Bool
  psr : Psr
  wim : BitVec 8
  tbr : Tbr
  y : Word
  /-- ICCR, ASR 31 (R50) -/
  iccr : Word
  /-- DIAG, ASR 30 (R51) -/
  diag : Word
  fpu : Fpu
  /-- read only when HAS_CP (R60) -/
  cp : Coprocessor
  delays : Delays
  mode : RunMode
  inputs : Inputs
  /-- the environment's moves at the next step boundaries, nearest first; when it is empty the inputs hold and no other
  agent stores (R592, log 23) -/
  schedule : List Move
  stale : List StaleWord
  mem : Memory
  /-- held between AtomicBegin and AtomicEnd (R62, R240) -/
  busLock : Bool
  /-- the number of this step, at which free values are drawn (log 8) -/
  draws : Nat
  cfg : Config
deriving DecidableEq, Repr

/-- The machine right after reset (R70), every register that the spec leaves uninitialised at the value that logs 4,
5 and 24 name, memory with nothing listed. -/
def State.reset : State where
  regs := Vector.replicate 136 0#32
  pc := 0#32
  npc := 4#32
  annul := false
  psr := { icc := { n := false, z := false, v := false, c := false }, ec := false, ef := false, pil := 0#4,
           s := true, ps := false, et := false, cwp := 0#3 }
  wim := 0#8
  tbr := { tba := 0#20, tt := 0#8 }
  y := 0#32
  iccr := defaultConfig.iccrReset
  diag := 0#32
  fpu := { f := Vector.replicate 32 0#32,
           fsr := { rd := 0#2, tem := 0#5, ns := false, ftt := 0#3, fcc := 0#2, aexc := 0#5, cexc := 0#5 },
           queue := [], mode := .execute }
  cp := { c := Vector.replicate 32 0#32, csr := 0#32, ccc := 0#2, queue := [], pending := false }
  delays := noDelays
  mode := .run
  inputs := { irl := 0#4, resetReq := false }
  schedule := []
  stale := []
  mem := []
  busLock := false
  draws := 0
  cfg := defaultConfig

end Sys2Proof.Machine
end

