-- ==== Sys2Proof/Machine/Memory.lean ====
section
/-! DEFINITION. Memory: the canonical form, the address spaces (20_memory.md R80 to R82), what the memory system
permits (R93), big-endian reads and writes (R84, R86, R87) and possibly stale instruction words (R98). -/

namespace Sys2Proof.Machine

/-- What a byte that nothing has written reads as (DESIGN CHOICE, log 3). -/
def unlistedByte : Byte := 0#8

/-- The byte at a key. -/
def Memory.read : Memory → Nat → Byte
  | [], _ => unlistedByte
  | (k, b) :: m, key => if k = key then b else Memory.read m key

/-- The list with `key` holding `b`, keys rising. -/
def Memory.insert : Memory → Nat → Byte → Memory
  | [], key, b => [(key, b)]
  | (k, c) :: m, key, b =>
    if key < k then (key, b) :: (k, c) :: m
    else if key = k then (key, b) :: m
    else (k, c) :: Memory.insert m key b

/-- The list without `key`. -/
def Memory.erase : Memory → Nat → Memory
  | [], _ => []
  | (k, c) :: m, key => if k = key then m else (k, c) :: Memory.erase m key

/-- The memory with `b` at `key`, in canonical form. -/
def Memory.write (m : Memory) (key : Nat) (b : Byte) : Memory :=
  if b = unlistedByte then m.erase key else m.insert key b

/-- Every key of the list is above `bound`, the keys rise, and no byte is the unlisted one. -/
def Memory.canonicalFrom : Nat → Memory → Bool
  | _, [] => true
  | bound, (k, b) :: m => decide (bound ≤ k) && decide (b ≠ unlistedByte) && Memory.canonicalFrom (k + 1) m

/-- The canonical form: keys strictly rising, no entry equal to what an unlisted key reads as. -/
def Memory.wf (m : Memory) : Bool := Memory.canonicalFrom 0 m

/-- ASIs 0x08 to 0x0B, the four views of one byte array (R81, R82, D18). -/
def standardSpace (asi : Asi) : Bool := decide (8 ≤ asi.toNat) && decide (asi.toNat ≤ 11)

/-- The key of a byte: the standard spaces share one array, every other ASI has its own (R82; log 45). -/
def cellKey (asi : Asi) (addr : Word) : Nat :=
  if standardSpace asi then addr.toNat else (asi.toNat + 1) * 2 ^ 32 + addr.toNat

/-- The byte that memory holds at an address of an address space. -/
def readByte (asi : Asi) (addr : Word) (s : State) : Byte := s.mem.read (cellKey asi addr)

/-- The word of memory at an address, most significant byte first (R84). -/
def readWord (asi : Asi) (addr : Word) (s : State) : Word :=
  readByte asi addr s ++ readByte asi (addr + 1#32) s ++ readByte asi (addr + 2#32) s ++ readByte asi (addr + 3#32) s

/-! ### The platform: access_ok and the memory map (R92, R93) -/

/-- Whether a region holds an address. -/
def regionHolds (asi : Asi) (addr : Word) (r : Region) : Bool :=
  decide (r.asiLow ≤ asi.toNat) && decide (asi.toNat ≤ r.asiHigh) && decide (r.base ≤ addr.toNat)
    && decide (addr.toNat < r.base + r.size)

/-- Whether a row of the table fits an access of `n` bytes. -/
def ruleFits (kind : AccessKind) (n : Nat) (asi : Asi) (addr : Word) (r : AccessRule) : Bool :=
  regionHolds asi addr r.region && r.kinds.contains kind && r.sizes.contains n

/-- `access_ok(asi, addr, n, kind)` of R93: one question about all `n` bytes (D23, D28), answered by the first row that
fits; where none does, no access is permitted (R162). -/
def accessOk (cfg : Config) (kind : AccessKind) (n : Nat) (asi : Asi) (addr : Word) : Bool :=
  match cfg.access.find? (ruleFits kind n asi addr) with
  | some r => r.permitted
  | none => false

/-- Whether the byte at an address belongs to a device (R91, R92). -/
def isDevice (cfg : Config) (asi : Asi) (addr : Word) : Bool := cfg.devices.any (regionHolds asi addr)

/-! ### The primitives, once the access is permitted (R86, R87) -/

/-- One byte read: memory's, or the environment's answer for a device (R592(c), log 20). -/
def loadByte (fetch : Bool) (asi : Asi) (addr : Word) (s : State) : Byte :=
  if isDevice s.cfg asi addr then Config.freeBits 8 s.draws (.deviceByte fetch (cellKey asi addr))
  else readByte asi addr s

/-- Two bytes read, most significant first (R84, R86). -/
def loadHalf (asi : Asi) (addr : Word) (s : State) : BitVec 16 :=
  loadByte false asi addr s ++ loadByte false asi (addr + 1#32) s

/-- Four bytes read, most significant first (R84, R86); `fetch` marks an instruction fetch. -/
def loadWord (fetch : Bool) (asi : Asi) (addr : Word) (s : State) : Word :=
  loadByte fetch asi addr s ++ loadByte fetch asi (addr + 1#32) s ++ loadByte fetch asi (addr + 2#32) s
    ++ loadByte fetch asi (addr + 3#32) s

/-- One byte written; a device takes the byte and memory stays as it is (log 20). -/
def putByte (asi : Asi) (addr : Word) (b : Byte) (s : State) : State :=
  if isDevice s.cfg asi addr then s else { s with mem := s.mem.write (cellKey asi addr) b }

/-- The address of the word that holds a byte. -/
def wordBase (addr : Word) : Word := addr &&& 0xFFFFFFFC#32

/-- After a store that led from `before` to `after`: the word that it changed may still be fetched at its older value
(R98). Instructions are fetched from the standard spaces alone (R82). -/
def noteStale (asi : Asi) (addr : Word) (before after : State) : State :=
  if standardSpace asi && decide (readWord asi (wordBase addr) after ≠ readWord asi (wordBase addr) before) then
    { after with stale := { addr := wordBase addr, old := readWord asi (wordBase addr) before } :: after.stale }
  else after

/-- `MemWrite(asi, addr, 1, b)` (R87). -/
def storeByte (asi : Asi) (addr : Word) (b : Byte) (s : State) : State :=
  noteStale asi addr s (putByte asi addr b s)

/-- `MemWrite(asi, addr, 2, v)`, most significant byte at the address (R84, R87). -/
def storeHalf (asi : Asi) (addr : Word) (v : BitVec 16) (s : State) : State :=
  noteStale asi addr s
    (putByte asi (addr + 1#32) (v.extractLsb' 0 8) (putByte asi addr (v.extractLsb' 8 8) s))

/-- `MemWrite(asi, addr, 4, v)`, most significant byte at the address (R84, R87). -/
def storeWord (asi : Asi) (addr : Word) (v : Word) (s : State) : State :=
  noteStale asi addr s
    (putByte asi (addr + 3#32) (v.extractLsb' 0 8)
      (putByte asi (addr + 2#32) (v.extractLsb' 8 8)
        (putByte asi (addr + 1#32) (v.extractLsb' 16 8)
          (putByte asi addr (v.extractLsb' 24 8) s))))

/-- A doubleword written as two words, the lower address first (R87, D23). -/
def storeDouble (asi : Asi) (addr : Word) (hi lo : Word) (s : State) : State :=
  storeWord asi (addr + 4#32) lo (storeWord asi addr hi s)

/-- A store by another processor or a device (R592(d)), made as this processor's are: it too may leave an older word in
the instruction cache (R98). -/
def outsideStore (x : OutsideStore) (s : State) : State :=
  match x with
  | .byte asi addr v => storeByte asi addr v s
  | .half asi index v => storeHalf asi (index ++ 0#1) v s
  | .word asi index v => storeWord asi (index ++ 0#2) v s

/-- The stores of other agents, the first of the list first. -/
def outsideStores : List OutsideStore → State → State
  | [], s => s
  | x :: rest, s => outsideStores rest (outsideStore x s)

/-! ### Alignment (R85) -/

/-- ea[0] = 0. -/
def aligned2 (addr : Word) : Bool := addr.extractLsb' 0 1 == 0#1

/-- ea[1:0] = 0. -/
def aligned4 (addr : Word) : Bool := addr.extractLsb' 0 2 == 0#2

/-- ea[2:0] = 0. -/
def aligned8 (addr : Word) : Bool := addr.extractLsb' 0 3 == 0#3

/-! ### Old or new -/

/-- The new value or one of the older ones, as the environment chooses (R98, R513, R572; log 12). With no older value
it is the new one. -/
def pickFree {α : Type} (new : α) (olds : List α) (draw : Nat) (use : FreeUse) : α :=
  match olds with
  | [] => new
  | o :: os => (new :: o :: os).getD ((Config.freeBits 64 draw use).toNat % (os.length + 2)) new

/-- The values that a fetch of a word address may still return besides memory's (R98). -/
def staleValues (addr : Word) (s : State) : List Word :=
  (s.stale.filter fun e => e.addr == addr).map StaleWord.old

/-- FLUSH of a doubleword: its words are fetched from memory from now on (R98, R470). -/
def flushDouble (ea : Word) (s : State) : State :=
  { s with stale := s.stale.filter fun e => !(e.addr.extractLsb' 3 29 == ea.extractLsb' 3 29) }

end Sys2Proof.Machine
end

