-- ==== Sys2Proof/Machine/Ops.lean ====
section
/-! DEFINITION. The shared operations: r registers through the windows (10_state.md R20 to R26), pc and npc (R31),
the delayed writes (70_reset_and_hazards.md R570 to R575), taking a trap and error mode (60_exceptions.md R501 to
R525), reset (70_reset_and_hazards.md R560), the interrupt condition (R512) and the instruction fetch (R88). -/

namespace Sys2Proof.Machine

/-- What a meaning answers. -/
abbrev Outcome := Host.Outcome State Fault Refusal

/-! ### Delayed writes (R570 to R575) -/

/-- One instruction executed or annulled: the PSR's count falls, and at 0 nothing is masked (R570). -/
def PsrDelay.tick (d : PsrDelay) : PsrDelay := if d.count ≤ 1 then noDelays.psr else { d with count := d.count - 1 }

/-- As PsrDelay.tick, for WIM. -/
def WimDelay.tick (d : WimDelay) : WimDelay := if d.count ≤ 1 then noDelays.wim else { d with count := d.count - 1 }

/-- As PsrDelay.tick, for TBR. -/
def TbrDelay.tick (d : TbrDelay) : TbrDelay := if d.count ≤ 1 then noDelays.tbr else { d with count := d.count - 1 }

/-- As PsrDelay.tick, for Y and DIAG. -/
def RegDelay.tick (d : RegDelay) : RegDelay :=
  if d.count ≤ 1 then { count := 0, masked := false } else { d with count := d.count - 1 }

/-- As PsrDelay.tick, for ICCR. -/
def IccrDelay.tick (d : IccrDelay) : IccrDelay :=
  if d.count ≤ 1 then noDelays.iccr else { d with count := d.count - 1 }

/-- The end of an instruction executed or annulled: every count falls (R570). -/
def Delays.tick (d : Delays) : Delays where
  psr := d.psr.tick
  wim := d.wim.tick
  tbr := d.tbr.tick
  y := d.y.tick
  diag := d.diag.tick
  iccr := d.iccr.tick

/-- An older value joins the older values of a field that a write changes (R513, R572). -/
def keepOld {α : Type} [DecidableEq α] (old new : α) (olds : List α) : List α :=
  if old = new then olds else old :: olds

/-- WRPSR changing the PSR from `old` to `new`: the count restarts and the masks merge (R570). -/
def PsrDelay.write (old new : Psr) (d : PsrDelay) : PsrDelay where
  count := writeDelay
  icc := d.icc || decide (old.icc ≠ new.icc)
  ec := d.ec || (old.ec != new.ec)
  ef := d.ef || (old.ef != new.ef)
  s := d.s || (old.s != new.s)
  ps := d.ps || (old.ps != new.ps)
  cwp := d.cwp || (old.cwp != new.cwp)
  oldEt := keepOld old.et new.et d.oldEt
  oldPil := keepOld old.pil new.pil d.oldPil

/-- WRWIM: the bits that change join the mask (R571). -/
def WimDelay.write (old new : BitVec 8) (d : WimDelay) : WimDelay where
  count := writeDelay
  mask := d.mask ||| (old ^^^ new)

/-- WRTBR: the old TBA joins the values that a trap may use (R572). -/
def TbrDelay.write (old new : BitVec 20) (d : TbrDelay) : TbrDelay where
  count := writeDelay
  oldTba := keepOld old new d.oldTba

/-- WRY, and WRASR of DIAG (R573, R575). -/
def RegDelay.write (old new : Word) (d : RegDelay) : RegDelay where
  count := writeDelay
  masked := d.masked || (old != new)

/-- The FTD bit of an ICCR value (R50; its position is ICCR_FTD_BIT of R6). -/
def ftdBit (cfg : Config) (v : Word) : Bool := v.getLsbD cfg.iccrFtdBit.val

/-- WRASR of ICCR (R575). -/
def IccrDelay.write (cfg : Config) (old new : Word) (d : IccrDelay) : IccrDelay where
  count := writeDelay
  masked := d.masked || (old != new)
  ftd := d.ftd || (ftdBit cfg old != ftdBit cfg new)

/-! ### The r registers -/

/-- The physical cell of r[i] in window `w` (R22). -/
def physIndex (w : WindowNum) (i : RegNum) : Fin 136 :=
  if h : i.toNat < 8 then ⟨i.toNat, by omega⟩
  else ⟨8 + (16 * w.toNat + (i.toNat - 8)) % 128, by omega⟩

/-- The window that an access to a register uses: CWP, or an unpredictable window while CWP is being modified
(R570). -/
def accessWindow (slot : Slot) (s : State) : WindowNum :=
  if s.delays.psr.cwp then Config.freeBits 3 s.draws (.cwpOf slot) else s.psr.cwp

/-- The value of r[i] in window `w`; r[0] reads as zero (R21). -/
def readRegIn (w : WindowNum) (i : RegNum) (s : State) : Word :=
  if i = 0#5 then 0#32 else s.regs.get (physIndex w i)

/-- `r[i] <- v` in window `w`; a write of r[0] is discarded (R21). -/
def writeRegIn (w : WindowNum) (i : RegNum) (v : Word) (s : State) : State :=
  if i = 0#5 then s else { s with regs := s.regs.set (physIndex w i).val v (physIndex w i).isLt }

/-- `r[i]` (R9). -/
def readReg (slot : Slot) (i : RegNum) (s : State) : Word := readRegIn (accessWindow slot s) i s

/-- `r[i] <- v` (R9). -/
def writeReg (slot : Slot) (i : RegNum) (v : Word) (s : State) : State := writeRegIn (accessWindow slot s) i v s

/-! ### pc and npc -/

/-- The default advance of R31, with the end of an instruction of R570. -/
def advance (s : State) : State :=
  { s with pc := s.npc, npc := s.npc + 4#32, delays := s.delays.tick }

/-- A delayed control transfer of R31, R340: the delay instruction first, then the target. -/
def transfer (target : Word) (s : State) : State :=
  { s with pc := s.npc, npc := target, delays := s.delays.tick }

/-- An annulled slot (R13 step 3, R33). -/
def skipAnnulled (s : State) : State := { advance s with annul := false }

/-! ### The fields of the PSR, as an instruction uses them (R570) -/

/-- icc, as its readers use it (R37, R570). -/
def iccInUse (s : State) : Icc :=
  if s.delays.psr.icc then
    let bits := Config.freeBits 4 s.draws .icc
    { n := bits.getLsbD 3, z := bits.getLsbD 2, v := bits.getLsbD 1, c := bits.getLsbD 0 }
  else s.psr.icc

/-- S, as the use named reads it. -/
def supervisorInUse (use : FreeUse) (s : State) : Bool :=
  if s.delays.psr.s then freeBit s.draws use else s.psr.s

/-- Whether a privileged instruction finds S = 1 (R551). -/
def privileged (s : State) : Bool := supervisorInUse .supervisorCheck s

/-- The data space of the current mode (R81, R160). -/
def dataSpace (s : State) : Asi := if supervisorInUse .dataSpace s then 0x0B#8 else 0x0A#8

/-- The instruction space of the current mode (R81, R88). -/
def fetchSpace (s : State) : Asi := if supervisorInUse .fetchSpace s then 0x09#8 else 0x08#8

/-- An icc write that is not a delayed write: final at once (R255, R570). -/
def setIcc (icc : Icc) (s : State) : State :=
  { s with psr := { s.psr with icc := icc }, delays := { s.delays with psr := { s.delays.psr with icc := false } } }

/-- A CWP write that is not a delayed write (R350, R575). -/
def setCwp (w : WindowNum) (s : State) : State :=
  { s with psr := { s.psr with cwp := w }, delays := { s.delays with psr := { s.delays.psr with cwp := false } } }

/-- The window that SAVE, RESTORE and RETT start from (R350 to R352, R570). -/
def windowInUse (s : State) : WindowNum :=
  if s.delays.psr.cwp then Config.freeBits 3 s.draws .cwpWindow else s.psr.cwp

/-- `WIM[w] = 1`, unpredictable while that bit is being modified (R45, R571). -/
def windowInvalid (w : WindowNum) (s : State) : Bool :=
  if s.delays.wim.mask.getLsbD w.toNat then freeBit s.draws .wimTest else s.wim.getLsbD w.toNat

/-- Y, as MULScc, RDY and the divides read it (R573). -/
def yInUse (s : State) : Word := if s.delays.y.masked then Config.freeBits 32 s.draws .yUse else s.y

/-- A write of Y that is not a delayed write: final, it clears the mask (R573). -/
def setY (v : Word) (s : State) : State :=
  { s with y := v, delays := { s.delays with y := { s.delays.y with masked := false } } }

/-! ### Traps -/

/-- The trap types of R501 that go through the trap table. -/
inductive TrapType where
  | instructionAccessException
  | illegalInstruction
  | privilegedInstruction
  | fpDisabled
  | windowOverflow
  | windowUnderflow
  | memoryAddressNotAligned
  | fpException
  | dataAccessException
  | tagOverflow
  | watchpointDetected
  | interruptLevel (level : BitVec 4)
  | rRegisterAccessError
  | instructionAccessError
  | cpDisabled
  | unimplementedFlush
  | cpException
  | dataAccessError
  | divisionByZero
  | dataStoreError
  | dataAccessMmuMiss
  | instructionAccessMmuMiss
  | trapInstruction (number : BitVec 7)
deriving DecidableEq, Repr

/-- tt(T), by R501. -/
def trapCode : TrapType → BitVec 8
  | .instructionAccessException => 0x01#8
  | .illegalInstruction => 0x02#8
  | .privilegedInstruction => 0x03#8
  | .fpDisabled => 0x04#8
  | .windowOverflow => 0x05#8
  | .windowUnderflow => 0x06#8
  | .memoryAddressNotAligned => 0x07#8
  | .fpException => 0x08#8
  | .dataAccessException => 0x09#8
  | .tagOverflow => 0x0A#8
  | .watchpointDetected => 0x0B#8
  | .interruptLevel level => 0x1#4 ++ level
  | .rRegisterAccessError => 0x20#8
  | .instructionAccessError => 0x21#8
  | .cpDisabled => 0x24#8
  | .unimplementedFlush => 0x25#8
  | .cpException => 0x28#8
  | .dataAccessError => 0x29#8
  | .divisionByZero => 0x2A#8
  | .dataStoreError => 0x2B#8
  | .dataAccessMmuMiss => 0x2C#8
  | .instructionAccessMmuMiss => 0x3C#8
  | .trapInstruction number => 0b1#1 ++ number

/-- The TBA that a trap uses: within three instructions of a WRTBR, the old one or the new one (R572). -/
def tbaForTrap (s : State) : BitVec 20 := pickFree s.tbr.tba s.delays.tbr.oldTba s.draws .tbaTrap

/-- The address of the handler of a trap code: `TBA ++ tt ++ 0000` (R46, R520 step 7). -/
def vectorAddress (tba : BitVec 20) (tt : BitVec 8) : Word := tba ++ tt ++ 0#4

/-- The pc that a trap saves in r[17] (R520 step 4, D29). -/
def savedPc (s : State) : Word := if s.annul then s.npc else s.pc

/-- The npc that a trap saves in r[18] (R520 step 4, D29). -/
def savedNpc (s : State) : Word := if s.annul then s.npc + 4#32 else s.npc

/-- Trap entry, the seven steps of R520; every delayed-write window closes (R570). -/
def trapEntry (t : TrapType) (s : State) : State :=
  let w := s.psr.cwp - 1#3
  let saved := writeRegIn w 18#5 (savedNpc s) (writeRegIn w 17#5 (savedPc s) s)
  { saved with
    psr := { s.psr with et := false, ps := s.psr.s, cwp := w, s := true }
    tbr := { s.tbr with tt := trapCode t }
    pc := vectorAddress (tbaForTrap s) (trapCode t)
    npc := vectorAddress (tbaForTrap s) (trapCode t) + 4#32
    annul := false
    delays := noDelays }

/-- Error mode: `TBR.tt <- tt(T); mode <- error`, and nothing else (R525). -/
def enterErrorMode (t : TrapType) (s : State) : State :=
  { s with tbr := { s.tbr with tt := trapCode t }, mode := .error }

/-- ET, as a trap that an instruction raises uses it (R520, R525, R570; log 10). -/
def trapsEnabled (s : State) : Bool :=
  if s.delays.psr.oldEt.isEmpty then s.psr.et else freeBit s.draws .enableTrapsTrap

/-- The state after a synchronous or deferred trap: trap entry, or error mode when ET = 0 (R520, R525). -/
def takeTrap (t : TrapType) (s : State) : State :=
  if trapsEnabled s then trapEntry t s else enterErrorMode t s

/-- `raise T` of R10. -/
def raise (t : TrapType) (s : State) : Outcome := .next (takeTrap t s)

/-! ### Return from a trap -/

/-- ET, as the test of RETT uses it (R352, R570). -/
def trapsEnabledForRett (s : State) : Bool :=
  if s.delays.psr.oldEt.isEmpty then s.psr.et else freeBit s.draws .enableTrapsRett

/-- PS, as RETT uses it (R352, R570). -/
def previousSupervisor (s : State) : Bool :=
  if s.delays.psr.ps then freeBit s.draws .prevSupervisor else s.psr.ps

/-- What RETT restores, once its checks are passed: ET <- 1, S <- PS, CWP, and the delayed transfer (R352, R523).
These writes are not delayed (R575). -/
def returnFromTrap (ncwp : WindowNum) (target : Word) (s : State) : State :=
  let t := transfer target s
  { t with
    psr := { s.psr with et := true, s := previousSupervisor s, cwp := ncwp }
    delays := { t.delays with psr := { t.delays.psr with s := false, cwp := false, oldEt := [] } } }

/-! ### Reset and interrupts -/

/-- The reset trap: exactly the writes of R560. -/
def resetTrap (s : State) : State :=
  { s with
    psr := { s.psr with s := true, et := false }
    pc := 0#32
    npc := 4#32
    annul := false
    fpu := { s.fpu with queue := [], mode := .execute }
    delays := noDelays
    mode := .run
    iccr := s.cfg.iccrReset }

/-- ET, as the interrupt condition uses it: old or new while it is being modified (R513). -/
def interruptEnable (s : State) : Bool := pickFree s.psr.et s.delays.psr.oldEt s.draws .enableTrapsInterrupt

/-- PIL, as the interrupt condition uses it: old or new while it is being modified (R513). -/
def interruptMask (s : State) : BitVec 4 := pickFree s.psr.pil s.delays.psr.oldPil s.draws .interruptLevel

/-- The interrupt condition of R512 on the request level, ET and PIL. -/
def interruptCondition (irl : BitVec 4) (et : Bool) (pil : BitVec 4) : Bool :=
  et && irl != 0#4 && (irl == 15#4 || decide (pil.toNat < irl.toNat))

/-- Whether an interrupt is taken at this step boundary (R512, R513). -/
def interruptTaken (s : State) : Bool :=
  interruptCondition s.inputs.irl (interruptEnable s) (interruptMask s)

/-! ### The step boundary and the fetch -/

/-- The step boundary: a new draw, and the environment's next move if it has one: the inputs and the stores of other
agents (R592). -/
def boundary (s : State) : State :=
  match s.schedule with
  | [] => { s with draws := s.draws + 1 }
  | m :: rest => outsideStores m.stores { s with draws := s.draws + 1, inputs := m.inputs, schedule := rest }

/-- `IFetch(pc)` of R88: none when the memory system refuses it; a word that a store changed and no FLUSH dropped may
be read at an older value (R98). -/
def fetch (s : State) : Option Word :=
  if accessOk s.cfg .execute 4 (fetchSpace s) s.pc then
    some (pickFree (loadWord true (fetchSpace s) s.pc s) (staleValues s.pc s) s.draws .staleFetch)
  else none

/-- The four bytes of an instruction word stored at an address, with no stale copy of that word left. -/
def placeWord (asi : Asi) (addr : Word) (w : Word) (s : State) : State :=
  let t := storeWord asi addr w s
  { t with stale := t.stale.filter fun e => !(e.addr == addr) }

end Sys2Proof.Machine
end

