-- ==== Sys2Proof/Machine/Flags.lean ====
section
/-! DEFINITION. The condition codes: icc after an addition, a subtraction and a logical operation
(43_arith_logical_shift.md R252 to R254), the tagged forms (44_mul_div_tagged.md R330), and the conditions of the
branches and of Ticc (45_control_transfer.md R341, R345, R346). -/

namespace Sys2Proof.Machine

/-- Signed overflow of an addition, by the printed formula of R252. -/
def addOverflow (a b r : Word) : Bool := (a.msb && b.msb && !r.msb) || (!a.msb && !b.msb && r.msb)

/-- Carry out of an addition, by the printed formula of R252. -/
def addCarry (a b r : Word) : Bool := (a.msb && b.msb) || (!r.msb && (a.msb || b.msb))

/-- Signed overflow of a subtraction, by the printed formula of R253. -/
def subOverflow (a b r : Word) : Bool := (a.msb && !b.msb && !r.msb) || (!a.msb && b.msb && r.msb)

/-- Borrow of a subtraction, by the printed formula of R253. -/
def subBorrow (a b r : Word) : Bool := (!a.msb && b.msb) || (r.msb && (!a.msb || b.msb))

/-- `icc_add(a, b, r)` (R252). -/
def iccAdd (a b r : Word) : Icc where
  n := r.msb
  z := r == 0#32
  v := addOverflow a b r
  c := addCarry a b r

/-- `icc_sub(a, b, r)` (R253). -/
def iccSub (a b r : Word) : Icc where
  n := r.msb
  z := r == 0#32
  v := subOverflow a b r
  c := subBorrow a b r

/-- `icc_logic(r)` (R254); also the flags of the multiplies (R313, R315). -/
def iccLogic (r : Word) : Icc where
  n := r.msb
  z := r == 0#32
  v := false
  c := false

/-- The flags of a divide: as icc_logic on the value written, with v the overflow (R322, R324). -/
def iccDivide (r : Word) (overflow : Bool) : Icc where
  n := r.msb
  z := r == 0#32
  v := overflow
  c := false

/-- Whether either operand has a nonzero tag (R330). -/
def tagged (a b : Word) : Bool := (a.extractLsb' 0 2 != 0#2) || (b.extractLsb' 0 2 != 0#2)

/-- Overflow of a tagged addition (R331, R333). -/
def taggedAddOverflow (a b r : Word) : Bool := addOverflow a b r || tagged a b

/-- Overflow of a tagged subtraction (R332, R334). -/
def taggedSubOverflow (a b r : Word) : Bool := subOverflow a b r || tagged a b

/-! ### The sixteen integer conditions, by their cond field (R341) -/

def condNever (_ : Icc) : Bool := false
def condEqual (f : Icc) : Bool := f.z
def condLessOrEqual (f : Icc) : Bool := f.z || (f.n ^^ f.v)
def condLess (f : Icc) : Bool := f.n ^^ f.v
def condLessOrEqualUnsigned (f : Icc) : Bool := f.c || f.z
def condCarrySet (f : Icc) : Bool := f.c
def condNegative (f : Icc) : Bool := f.n
def condOverflowSet (f : Icc) : Bool := f.v
def condAlways (_ : Icc) : Bool := true
def condNotEqual (f : Icc) : Bool := !f.z
def condGreater (f : Icc) : Bool := !(f.z || (f.n ^^ f.v))
def condGreaterOrEqual (f : Icc) : Bool := !(f.n ^^ f.v)
def condGreaterUnsigned (f : Icc) : Bool := !(f.c || f.z)
def condCarryClear (f : Icc) : Bool := !f.c
def condPositive (f : Icc) : Bool := !f.n
def condOverflowClear (f : Icc) : Bool := !f.v

/-! ### Conditions on a two-bit code -/

/-- Membership in a set of the codes 0 to 3, given as which of them it holds. The floating-point codes are
0 equal, 1 less, 2 greater, 3 unordered (R345); the coprocessor's are its own (R346). -/
def codeIn (on0 on1 on2 on3 : Bool) (code : BitVec 2) : Bool :=
  if code = 0#2 then on0 else if code = 1#2 then on1 else if code = 2#2 then on2 else on3

end Sys2Proof.Machine
end

