-- ==== Sys2Proof/Syntax.lean ====
section
/-! DEFINITION. The instructions: one constructor for each row of spec/opcode_table.json, in the table's order.
Fields that R134 calls ignored, and an rd or rs1 that no rule reads, are not kept; the unused register field of an
FPop is kept, since the whole word enters the floating-point queue (R412, R415; log 35). -/

namespace Sys2Proof

/-- `operand2` of R11: r[rs2] (i = 0) or the sign-extended 13-bit immediate (i = 1). -/
inductive RegImm where
  | reg (rs2 : RegNum)
  | imm (simm13 : BitVec 13)
deriving DecidableEq, Repr

/-- The shift count of R285: the low five bits of r[rs2], or the field shcnt. -/
inductive ShiftCount where
  | reg (rs2 : RegNum)
  | imm (shcnt : BitVec 5)
deriving DecidableEq, Repr

/-- The address of an alternate-space instruction (R123, R162): r[rs2] with an address space, or the form with i = 1,
which is an instruction that raises illegal_instruction (R133(d)). -/
inductive AltAddr where
  | reg (rs2 : RegNum) (asi : Asi)
  | imm (simm13 : BitVec 13)
deriving DecidableEq, Repr

/-- The instructions of spec/opcode_table.json. -/
inductive Instr where
  | call (disp30 : BitVec 30)  -- CALL, R348
  | unimp (const22 : BitVec 22)  -- UNIMP, R465
  | sethi (rd : RegNum) (imm22 : BitVec 22)  -- SETHI, R290
  | bn (a : Bool) (disp22 : BitVec 22)  -- BN, R343
  | be (a : Bool) (disp22 : BitVec 22)  -- BE, R343
  | ble (a : Bool) (disp22 : BitVec 22)  -- BLE, R343
  | bl (a : Bool) (disp22 : BitVec 22)  -- BL, R343
  | bleu (a : Bool) (disp22 : BitVec 22)  -- BLEU, R343
  | bcs (a : Bool) (disp22 : BitVec 22)  -- BCS, R343
  | bneg (a : Bool) (disp22 : BitVec 22)  -- BNEG, R343
  | bvs (a : Bool) (disp22 : BitVec 22)  -- BVS, R343
  | ba (a : Bool) (disp22 : BitVec 22)  -- BA, R343
  | bne (a : Bool) (disp22 : BitVec 22)  -- BNE, R343
  | bg (a : Bool) (disp22 : BitVec 22)  -- BG, R343
  | bge (a : Bool) (disp22 : BitVec 22)  -- BGE, R343
  | bgu (a : Bool) (disp22 : BitVec 22)  -- BGU, R343
  | bcc (a : Bool) (disp22 : BitVec 22)  -- BCC, R343
  | bpos (a : Bool) (disp22 : BitVec 22)  -- BPOS, R343
  | bvc (a : Bool) (disp22 : BitVec 22)  -- BVC, R343
  | fbn (a : Bool) (disp22 : BitVec 22)  -- FBN, R345
  | fbne (a : Bool) (disp22 : BitVec 22)  -- FBNE, R345
  | fblg (a : Bool) (disp22 : BitVec 22)  -- FBLG, R345
  | fbul (a : Bool) (disp22 : BitVec 22)  -- FBUL, R345
  | fbl (a : Bool) (disp22 : BitVec 22)  -- FBL, R345
  | fbug (a : Bool) (disp22 : BitVec 22)  -- FBUG, R345
  | fbg (a : Bool) (disp22 : BitVec 22)  -- FBG, R345
  | fbu (a : Bool) (disp22 : BitVec 22)  -- FBU, R345
  | fba (a : Bool) (disp22 : BitVec 22)  -- FBA, R345
  | fbe (a : Bool) (disp22 : BitVec 22)  -- FBE, R345
  | fbue (a : Bool) (disp22 : BitVec 22)  -- FBUE, R345
  | fbge (a : Bool) (disp22 : BitVec 22)  -- FBGE, R345
  | fbuge (a : Bool) (disp22 : BitVec 22)  -- FBUGE, R345
  | fble (a : Bool) (disp22 : BitVec 22)  -- FBLE, R345
  | fbule (a : Bool) (disp22 : BitVec 22)  -- FBULE, R345
  | fbo (a : Bool) (disp22 : BitVec 22)  -- FBO, R345
  | cbn (a : Bool) (disp22 : BitVec 22)  -- CBN, R346
  | cb123 (a : Bool) (disp22 : BitVec 22)  -- CB123, R346
  | cb12 (a : Bool) (disp22 : BitVec 22)  -- CB12, R346
  | cb13 (a : Bool) (disp22 : BitVec 22)  -- CB13, R346
  | cb1 (a : Bool) (disp22 : BitVec 22)  -- CB1, R346
  | cb23 (a : Bool) (disp22 : BitVec 22)  -- CB23, R346
  | cb2 (a : Bool) (disp22 : BitVec 22)  -- CB2, R346
  | cb3 (a : Bool) (disp22 : BitVec 22)  -- CB3, R346
  | cba (a : Bool) (disp22 : BitVec 22)  -- CBA, R346
  | cb0 (a : Bool) (disp22 : BitVec 22)  -- CB0, R346
  | cb03 (a : Bool) (disp22 : BitVec 22)  -- CB03, R346
  | cb02 (a : Bool) (disp22 : BitVec 22)  -- CB02, R346
  | cb023 (a : Bool) (disp22 : BitVec 22)  -- CB023, R346
  | cb01 (a : Bool) (disp22 : BitVec 22)  -- CB01, R346
  | cb013 (a : Bool) (disp22 : BitVec 22)  -- CB013, R346
  | cb012 (a : Bool) (disp22 : BitVec 22)  -- CB012, R346
  | add (rd rs1 : RegNum) (op2 : RegImm)  -- ADD, R260
  | and (rd rs1 : RegNum) (op2 : RegImm)  -- AND, R270
  | or (rd rs1 : RegNum) (op2 : RegImm)  -- OR, R274
  | xor (rd rs1 : RegNum) (op2 : RegImm)  -- XOR, R278
  | sub (rd rs1 : RegNum) (op2 : RegImm)  -- SUB, R264
  | andn (rd rs1 : RegNum) (op2 : RegImm)  -- ANDN, R272
  | orn (rd rs1 : RegNum) (op2 : RegImm)  -- ORN, R276
  | xnor (rd rs1 : RegNum) (op2 : RegImm)  -- XNOR, R280
  | addx (rd rs1 : RegNum) (op2 : RegImm)  -- ADDX, R262
  | umul (rd rs1 : RegNum) (op2 : RegImm)  -- UMUL, R312
  | smul (rd rs1 : RegNum) (op2 : RegImm)  -- SMUL, R314
  | subx (rd rs1 : RegNum) (op2 : RegImm)  -- SUBX, R266
  | udiv (rd rs1 : RegNum) (op2 : RegImm)  -- UDIV, R321
  | sdiv (rd rs1 : RegNum) (op2 : RegImm)  -- SDIV, R323
  | addcc (rd rs1 : RegNum) (op2 : RegImm)  -- ADDcc, R261
  | andcc (rd rs1 : RegNum) (op2 : RegImm)  -- ANDcc, R271
  | orcc (rd rs1 : RegNum) (op2 : RegImm)  -- ORcc, R275
  | xorcc (rd rs1 : RegNum) (op2 : RegImm)  -- XORcc, R279
  | subcc (rd rs1 : RegNum) (op2 : RegImm)  -- SUBcc, R265
  | andncc (rd rs1 : RegNum) (op2 : RegImm)  -- ANDNcc, R273
  | orncc (rd rs1 : RegNum) (op2 : RegImm)  -- ORNcc, R277
  | xnorcc (rd rs1 : RegNum) (op2 : RegImm)  -- XNORcc, R281
  | addxcc (rd rs1 : RegNum) (op2 : RegImm)  -- ADDXcc, R263
  | umulcc (rd rs1 : RegNum) (op2 : RegImm)  -- UMULcc, R313
  | smulcc (rd rs1 : RegNum) (op2 : RegImm)  -- SMULcc, R315
  | subxcc (rd rs1 : RegNum) (op2 : RegImm)  -- SUBXcc, R267
  | udivcc (rd rs1 : RegNum) (op2 : RegImm)  -- UDIVcc, R322
  | sdivcc (rd rs1 : RegNum) (op2 : RegImm)  -- SDIVcc, R324
  | taddcc (rd rs1 : RegNum) (op2 : RegImm)  -- TADDcc, R331
  | tsubcc (rd rs1 : RegNum) (op2 : RegImm)  -- TSUBcc, R332
  | taddcctv (rd rs1 : RegNum) (op2 : RegImm)  -- TADDccTV, R333
  | tsubcctv (rd rs1 : RegNum) (op2 : RegImm)  -- TSUBccTV, R334
  | mulscc (rd rs1 : RegNum) (op2 : RegImm)  -- MULScc, R317
  | sll (rd rs1 : RegNum) (count : ShiftCount)  -- SLL, R286
  | srl (rd rs1 : RegNum) (count : ShiftCount)  -- SRL, R287
  | sra (rd rs1 : RegNum) (count : ShiftCount)  -- SRA, R288
  | rdy (rd : RegNum)  -- RDY, R382
  | rdasr (rd rs1 : RegNum)  -- RDASR, R381
  | rdpsr (rd : RegNum)  -- RDPSR, R383
  | rdwim (rd : RegNum)  -- RDWIM, R384
  | rdtbr (rd : RegNum)  -- RDTBR, R385
  | wry (rs1 : RegNum) (op2 : RegImm)  -- WRY, R392
  | wrasr (rd rs1 : RegNum) (op2 : RegImm)  -- WRASR, R391
  | wrpsr (rs1 : RegNum) (op2 : RegImm)  -- WRPSR, R393
  | wrwim (rs1 : RegNum) (op2 : RegImm)  -- WRWIM, R394
  | wrtbr (rs1 : RegNum) (op2 : RegImm)  -- WRTBR, R395
  | fmovs (rd rs1 rs2 : RegNum)  -- FMOVs, R420
  | fnegs (rd rs1 rs2 : RegNum)  -- FNEGs, R421
  | fabss (rd rs1 rs2 : RegNum)  -- FABSs, R422
  | fsqrts (rd rs1 rs2 : RegNum)  -- FSQRTs, R423
  | fsqrtd (rd rs1 rs2 : RegNum)  -- FSQRTd, R424
  | fsqrtq (rd rs1 rs2 : RegNum)  -- FSQRTq, R425
  | fadds (rd rs1 rs2 : RegNum)  -- FADDs, R426
  | faddd (rd rs1 rs2 : RegNum)  -- FADDd, R427
  | faddq (rd rs1 rs2 : RegNum)  -- FADDq, R428
  | fsubs (rd rs1 rs2 : RegNum)  -- FSUBs, R429
  | fsubd (rd rs1 rs2 : RegNum)  -- FSUBd, R430
  | fsubq (rd rs1 rs2 : RegNum)  -- FSUBq, R431
  | fmuls (rd rs1 rs2 : RegNum)  -- FMULs, R432
  | fmuld (rd rs1 rs2 : RegNum)  -- FMULd, R433
  | fmulq (rd rs1 rs2 : RegNum)  -- FMULq, R434
  | fdivs (rd rs1 rs2 : RegNum)  -- FDIVs, R435
  | fdivd (rd rs1 rs2 : RegNum)  -- FDIVd, R436
  | fdivq (rd rs1 rs2 : RegNum)  -- FDIVq, R437
  | fsmuld (rd rs1 rs2 : RegNum)  -- FsMULd, R438
  | fdmulq (rd rs1 rs2 : RegNum)  -- FdMULq, R439
  | fitos (rd rs1 rs2 : RegNum)  -- FiTOs, R440
  | fitod (rd rs1 rs2 : RegNum)  -- FiTOd, R441
  | fitoq (rd rs1 rs2 : RegNum)  -- FiTOq, R442
  | fstoi (rd rs1 rs2 : RegNum)  -- FsTOi, R443
  | fdtoi (rd rs1 rs2 : RegNum)  -- FdTOi, R444
  | fqtoi (rd rs1 rs2 : RegNum)  -- FqTOi, R445
  | fstod (rd rs1 rs2 : RegNum)  -- FsTOd, R446
  | fstoq (rd rs1 rs2 : RegNum)  -- FsTOq, R447
  | fdtos (rd rs1 rs2 : RegNum)  -- FdTOs, R448
  | fdtoq (rd rs1 rs2 : RegNum)  -- FdTOq, R449
  | fqtos (rd rs1 rs2 : RegNum)  -- FqTOs, R450
  | fqtod (rd rs1 rs2 : RegNum)  -- FqTOd, R451
  | fcmps (rd rs1 rs2 : RegNum)  -- FCMPs, R452
  | fcmpd (rd rs1 rs2 : RegNum)  -- FCMPd, R453
  | fcmpq (rd rs1 rs2 : RegNum)  -- FCMPq, R454
  | fcmpes (rd rs1 rs2 : RegNum)  -- FCMPEs, R455
  | fcmped (rd rs1 rs2 : RegNum)  -- FCMPEd, R456
  | fcmpeq (rd rs1 rs2 : RegNum)  -- FCMPEq, R457
  | cpop1 (rd rs1 : RegNum) (opc : BitVec 9) (rs2 : RegNum)  -- CPop1, R460
  | cpop2 (rd rs1 : RegNum) (opc : BitVec 9) (rs2 : RegNum)  -- CPop2, R461
  | jmpl (rd rs1 : RegNum) (op2 : RegImm)  -- JMPL, R349
  | rett (rs1 : RegNum) (op2 : RegImm)  -- RETT, R352
  | tn (rs1 : RegNum) (op2 : RegImm)  -- TN, R355
  | te (rs1 : RegNum) (op2 : RegImm)  -- TE, R355
  | tle (rs1 : RegNum) (op2 : RegImm)  -- TLE, R355
  | tl (rs1 : RegNum) (op2 : RegImm)  -- TL, R355
  | tleu (rs1 : RegNum) (op2 : RegImm)  -- TLEU, R355
  | tcs (rs1 : RegNum) (op2 : RegImm)  -- TCS, R355
  | tneg (rs1 : RegNum) (op2 : RegImm)  -- TNEG, R355
  | tvs (rs1 : RegNum) (op2 : RegImm)  -- TVS, R355
  | ta (rs1 : RegNum) (op2 : RegImm)  -- TA, R355
  | tne (rs1 : RegNum) (op2 : RegImm)  -- TNE, R355
  | tg (rs1 : RegNum) (op2 : RegImm)  -- TG, R355
  | tge (rs1 : RegNum) (op2 : RegImm)  -- TGE, R355
  | tgu (rs1 : RegNum) (op2 : RegImm)  -- TGU, R355
  | tcc (rs1 : RegNum) (op2 : RegImm)  -- TCC, R355
  | tpos (rs1 : RegNum) (op2 : RegImm)  -- TPOS, R355
  | tvc (rs1 : RegNum) (op2 : RegImm)  -- TVC, R355
  | flush (rs1 : RegNum) (op2 : RegImm)  -- FLUSH, R470
  | save (rd rs1 : RegNum) (op2 : RegImm)  -- SAVE, R350
  | restore (rd rs1 : RegNum) (op2 : RegImm)  -- RESTORE, R351
  | ld (rd rs1 : RegNum) (op2 : RegImm)  -- LD, R166
  | ldub (rd rs1 : RegNum) (op2 : RegImm)  -- LDUB, R167
  | lduh (rd rs1 : RegNum) (op2 : RegImm)  -- LDUH, R169
  | ldd (rd rs1 : RegNum) (op2 : RegImm)  -- LDD, R171
  | st (rd rs1 : RegNum) (op2 : RegImm)  -- ST, R180
  | stb (rd rs1 : RegNum) (op2 : RegImm)  -- STB, R181
  | sth (rd rs1 : RegNum) (op2 : RegImm)  -- STH, R182
  | std (rd rs1 : RegNum) (op2 : RegImm)  -- STD, R183
  | ldsb (rd rs1 : RegNum) (op2 : RegImm)  -- LDSB, R168
  | ldsh (rd rs1 : RegNum) (op2 : RegImm)  -- LDSH, R170
  | ldstub (rd rs1 : RegNum) (op2 : RegImm)  -- LDSTUB, R242
  | swap (rd rs1 : RegNum) (op2 : RegImm)  -- SWAP, R244
  | ldf (rd rs1 : RegNum) (op2 : RegImm)  -- LDF, R205
  | ldfsr (rs1 : RegNum) (op2 : RegImm)  -- LDFSR, R207
  | lddf (rd rs1 : RegNum) (op2 : RegImm)  -- LDDF, R206
  | stf (rd rs1 : RegNum) (op2 : RegImm)  -- STF, R208
  | stfsr (rs1 : RegNum) (op2 : RegImm)  -- STFSR, R210
  | stdfq (rs1 : RegNum) (op2 : RegImm)  -- STDFQ, R211
  | stdf (rd rs1 : RegNum) (op2 : RegImm)  -- STDF, R209
  | ldc (rd rs1 : RegNum) (op2 : RegImm)  -- LDC, R215
  | ldcsr (rs1 : RegNum) (op2 : RegImm)  -- LDCSR, R217
  | lddc (rd rs1 : RegNum) (op2 : RegImm)  -- LDDC, R216
  | stc (rd rs1 : RegNum) (op2 : RegImm)  -- STC, R218
  | stcsr (rs1 : RegNum) (op2 : RegImm)  -- STCSR, R220
  | stdcq (rs1 : RegNum) (op2 : RegImm)  -- STDCQ, R221
  | stdc (rd rs1 : RegNum) (op2 : RegImm)  -- STDC, R219
  | lda (rd rs1 : RegNum) (addr : AltAddr)  -- LDA, R172
  | lduba (rd rs1 : RegNum) (addr : AltAddr)  -- LDUBA, R173
  | lduha (rd rs1 : RegNum) (addr : AltAddr)  -- LDUHA, R175
  | ldda (rd rs1 : RegNum) (addr : AltAddr)  -- LDDA, R177
  | sta (rd rs1 : RegNum) (addr : AltAddr)  -- STA, R184
  | stba (rd rs1 : RegNum) (addr : AltAddr)  -- STBA, R185
  | stha (rd rs1 : RegNum) (addr : AltAddr)  -- STHA, R186
  | stda (rd rs1 : RegNum) (addr : AltAddr)  -- STDA, R187
  | ldsba (rd rs1 : RegNum) (addr : AltAddr)  -- LDSBA, R174
  | ldsha (rd rs1 : RegNum) (addr : AltAddr)  -- LDSHA, R176
  | ldstuba (rd rs1 : RegNum) (addr : AltAddr)  -- LDSTUBA, R243
  | swapa (rd rs1 : RegNum) (addr : AltAddr)  -- SWAPA, R245
deriving DecidableEq, Repr

end Sys2Proof
end

