-- ==== Sys2Proof/Machine/Operands.lean ====
section
/-! DEFINITION. The operand forms (00_scope.md R11, 30_encoding.md R125, R126, 43_arith_logical_shift.md R285) and
register pairs (10_state.md R26). -/

namespace Sys2Proof.Machine

/-- `operand2` of R11. -/
def operand2 (op2 : RegImm) (s : State) : Word :=
  match op2 with
  | .reg rs2 => readReg .rs2 rs2 s
  | .imm simm13 => simm13.signExtend 32

/-- `r[rs1]` as a source. -/
def operand1 (rs1 : RegNum) (s : State) : Word := readReg .rs1 rs1 s

/-- `ea = r[rs1] + operand2`, modulo 2^32 (R11, R160). -/
def effectiveAddress (rs1 : RegNum) (op2 : RegImm) (s : State) : Word := operand1 rs1 s + operand2 op2 s

/-- `ea = r[rs1] + r[rs2]` of the alternate-space instructions (R160). -/
def alternateAddress (rs1 rs2 : RegNum) (s : State) : Word := operand1 rs1 s + readReg .rs2 rs2 s

/-- The shift count of R285. -/
def shiftCount (count : ShiftCount) (s : State) : Nat :=
  match count with
  | .reg rs2 => ((readReg .rs2 rs2 s).extractLsb' 0 5).toNat
  | .imm shcnt => shcnt.toNat

/-- A branch target, `pc + 4 x sext(disp22)` (R342). -/
def branchTarget (disp22 : BitVec 22) (s : State) : Word := s.pc + (disp22 ++ 0#2).signExtend 32

/-- The target of CALL, `pc + 4 x disp30` (R348). -/
def callTarget (disp30 : BitVec 30) (s : State) : Word := s.pc + (disp30 ++ 0#2)

/-- The number of the even register of a pair (R26). -/
def pairEven (rd : RegNum) : RegNum := rd &&& 0b11110#5

/-- The number of the odd register of a pair (R26). -/
def pairOdd (rd : RegNum) : RegNum := rd ||| 0b00001#5

/-- Whether a register number is odd. -/
def oddNumber (rd : RegNum) : Bool := rd.getLsbD 0

/-- Whether an odd rd stops the instruction as an illegal one (R26, R133, R533). -/
def oddRdIllegal (rd : RegNum) (s : State) : Bool := oddNumber rd && decide (s.cfg.oddRd = .illegalInstruction)

/-- Whether an odd rd is one to which the parameter gives no behaviour (R26). -/
def oddRdRefused (rd : RegNum) (s : State) : Bool := oddNumber rd && decide (s.cfg.oddRd = .refuse)

end Sys2Proof.Machine
end

