-- ==== Sys2Proof/Machine/Arith.lean ====
section
/-! DEFINITION. Add, subtract, logical, shift and SETHI (43_arith_logical_shift.md). -/

namespace Sys2Proof.Machine

/-- The end of an instruction whose one effect is `r[rd] <- v` (R250). -/
def writeResult (rd : RegNum) (v : Word) (s : State) : Outcome := .next (advance (writeReg .rd rd v s))

/-- As writeResult, for an instruction that also writes icc (R255). -/
def writeResultCc (rd : RegNum) (v : Word) (icc : Icc) (s : State) : Outcome :=
  .next (advance (setIcc icc (writeReg .rd rd v s)))

/-- The carry-in of ADDX and SUBX (R262, R266). -/
def carryIn (s : State) : Word := boolWord (iccInUse s).c

/-- ADD: add (R260). -/
def execAdd (rd rs1 : RegNum) (op2 : RegImm) (s : State) : Outcome :=
  writeResult rd (operand1 rs1 s + operand2 op2 s) s

/-- ADDcc: add, with icc (R261). -/
def execAddcc (rd rs1 : RegNum) (op2 : RegImm) (s : State) : Outcome :=
  let a := operand1 rs1 s
  let b := operand2 op2 s
  let r := a + b
  writeResultCc rd r (iccAdd a b r) s

/-- ADDX: add with carry (R262). -/
def execAddx (rd rs1 : RegNum) (op2 : RegImm) (s : State) : Outcome :=
  writeResult rd (operand1 rs1 s + operand2 op2 s + carryIn s) s

/-- ADDXcc: add with carry, with icc (R263). -/
def execAddxcc (rd rs1 : RegNum) (op2 : RegImm) (s : State) : Outcome :=
  let a := operand1 rs1 s
  let b := operand2 op2 s
  let r := a + b + carryIn s
  writeResultCc rd r (iccAdd a b r) s

/-- SUB: subtract (R264). -/
def execSub (rd rs1 : RegNum) (op2 : RegImm) (s : State) : Outcome :=
  writeResult rd (operand1 rs1 s - operand2 op2 s) s

/-- SUBcc: subtract, with icc (R265). -/
def execSubcc (rd rs1 : RegNum) (op2 : RegImm) (s : State) : Outcome :=
  let a := operand1 rs1 s
  let b := operand2 op2 s
  let r := a - b
  writeResultCc rd r (iccSub a b r) s

/-- SUBX: subtract with carry (R266). -/
def execSubx (rd rs1 : RegNum) (op2 : RegImm) (s : State) : Outcome :=
  writeResult rd (operand1 rs1 s - operand2 op2 s - carryIn s) s

/-- SUBXcc: subtract with carry, with icc (R267). -/
def execSubxcc (rd rs1 : RegNum) (op2 : RegImm) (s : State) : Outcome :=
  let a := operand1 rs1 s
  let b := operand2 op2 s
  let r := a - b - carryIn s
  writeResultCc rd r (iccSub a b r) s

/-- AND: and (R270). -/
def execAnd (rd rs1 : RegNum) (op2 : RegImm) (s : State) : Outcome :=
  writeResult rd (operand1 rs1 s &&& operand2 op2 s) s

/-- ANDcc: and, with icc (R271). -/
def execAndcc (rd rs1 : RegNum) (op2 : RegImm) (s : State) : Outcome :=
  let a := operand1 rs1 s
  let b := operand2 op2 s
  let r := a &&& b
  writeResultCc rd r (iccLogic r) s

/-- ANDN: and not (R272). -/
def execAndn (rd rs1 : RegNum) (op2 : RegImm) (s : State) : Outcome :=
  writeResult rd (operand1 rs1 s &&& ~~~(operand2 op2 s)) s

/-- ANDNcc: and not, with icc (R273). -/
def execAndncc (rd rs1 : RegNum) (op2 : RegImm) (s : State) : Outcome :=
  let a := operand1 rs1 s
  let b := operand2 op2 s
  let r := a &&& ~~~(b)
  writeResultCc rd r (iccLogic r) s

/-- OR: or (R274). -/
def execOr (rd rs1 : RegNum) (op2 : RegImm) (s : State) : Outcome :=
  writeResult rd (operand1 rs1 s ||| operand2 op2 s) s

/-- ORcc: or, with icc (R275). -/
def execOrcc (rd rs1 : RegNum) (op2 : RegImm) (s : State) : Outcome :=
  let a := operand1 rs1 s
  let b := operand2 op2 s
  let r := a ||| b
  writeResultCc rd r (iccLogic r) s

/-- ORN: or not (R276). -/
def execOrn (rd rs1 : RegNum) (op2 : RegImm) (s : State) : Outcome :=
  writeResult rd (operand1 rs1 s ||| ~~~(operand2 op2 s)) s

/-- ORNcc: or not, with icc (R277). -/
def execOrncc (rd rs1 : RegNum) (op2 : RegImm) (s : State) : Outcome :=
  let a := operand1 rs1 s
  let b := operand2 op2 s
  let r := a ||| ~~~(b)
  writeResultCc rd r (iccLogic r) s

/-- XOR: exclusive or (R278). -/
def execXor (rd rs1 : RegNum) (op2 : RegImm) (s : State) : Outcome :=
  writeResult rd (operand1 rs1 s ^^^ operand2 op2 s) s

/-- XORcc: exclusive or, with icc (R279). -/
def execXorcc (rd rs1 : RegNum) (op2 : RegImm) (s : State) : Outcome :=
  let a := operand1 rs1 s
  let b := operand2 op2 s
  let r := a ^^^ b
  writeResultCc rd r (iccLogic r) s

/-- XNOR: exclusive nor (R280). -/
def execXnor (rd rs1 : RegNum) (op2 : RegImm) (s : State) : Outcome :=
  writeResult rd (operand1 rs1 s ^^^ ~~~(operand2 op2 s)) s

/-- XNORcc: exclusive nor, with icc (R281). -/
def execXnorcc (rd rs1 : RegNum) (op2 : RegImm) (s : State) : Outcome :=
  let a := operand1 rs1 s
  let b := operand2 op2 s
  let r := a ^^^ ~~~(b)
  writeResultCc rd r (iccLogic r) s

/-- SLL: shift left, zeros in (R286). -/
def execSll (rd rs1 : RegNum) (count : ShiftCount) (s : State) : Outcome :=
  writeResult rd (operand1 rs1 s <<< shiftCount count s) s

/-- SRL: shift right, zeros in (R287). -/
def execSrl (rd rs1 : RegNum) (count : ShiftCount) (s : State) : Outcome :=
  writeResult rd (operand1 rs1 s >>> shiftCount count s) s

/-- SRA: shift right, the sign in (R288). -/
def execSra (rd rs1 : RegNum) (count : ShiftCount) (s : State) : Outcome :=
  writeResult rd ((operand1 rs1 s).sshiftRight (shiftCount count s)) s

/-- SETHI: `r[rd] <- imm22 ++ 0000000000` (R290). -/
def execSethi (rd : RegNum) (imm22 : BitVec 22) (s : State) : Outcome := writeResult rd (imm22 ++ 0#10) s

end Sys2Proof.Machine
end

