-- ==== Sys2Proof/Machine/LoadStore.lean ====
section
/-! DEFINITION. Integer loads and stores, ordinary and alternate-space (40_load_store.md). -/

namespace Sys2Proof.Machine

/-- Whether an address is aligned to an access of `n` bytes (R85). -/
def alignedTo (n : Nat) (ea : Word) : Bool :=
  if n = 8 then aligned8 ea else if n = 4 then aligned4 ea else if n = 2 then aligned2 ea else true

/-- Steps 2 and 3 of R161: the alignment, then the memory system; `k` when both agree. -/
def checkedAccess (kind : AccessKind) (n : Nat) (asi : Asi) (ea : Word) (s : State) (k : Outcome) : Outcome :=
  if alignedTo n ea then
    if accessOk s.cfg kind n asi ea then k else raise .dataAccessException s
  else raise .memoryAddressNotAligned s

/-- The check of S and an illegal form of the same instruction, in the order of PRIV_BEFORE_ILLEGAL (R162, R503);
`k` when neither holds. -/
def privilegedForm (illegal : Bool) (s : State) (k : Outcome) : Outcome :=
  if s.cfg.privBeforeIllegal then
    if privileged s then (if illegal then raise .illegalInstruction s else k) else raise .privilegedInstruction s
  else
    if illegal then raise .illegalInstruction s else (if privileged s then k else raise .privilegedInstruction s)

/-- An odd rd of a doubleword instruction, by ODD_RD (R26); `k` for an even one and under force_even. Under
illegal_instruction the trap comes first by its priority (R503); that under refuse the refusal comes first, also where
the instruction would raise fp_disabled or cp_disabled, is a DESIGN CHOICE (log 50). -/
def pairRegister (rd : RegNum) (s : State) (k : Outcome) : Outcome :=
  if oddRdIllegal rd s then raise .illegalInstruction s
  else if oddRdRefused rd s then .refused .oddRegister
  else k

/-- A privileged alternate-space instruction on a register pair (R162, R26). -/
def privilegedPair (rd : RegNum) (s : State) (k : Outcome) : Outcome :=
  privilegedForm (oddRdIllegal rd s) s (if oddRdRefused rd s then .refused .oddRegister else k)

/-- The form with i = 1 of an alternate-space instruction: illegal, or privileged in user mode (R133, R162). -/
def alternateImmediate (s : State) : Outcome := privilegedForm true s (raise .illegalInstruction s)

/-! ### The accesses -/

/-- A load of `n` bytes whose value for r[rd] is `v` (R161). -/
def loadTo (n : Nat) (asi : Asi) (ea : Word) (rd : RegNum) (v : Word) (s : State) : Outcome :=
  checkedAccess .read n asi ea s (.next (advance (writeReg .rd rd v s)))

/-- `r[rd] <- hi; r[rd + 1] <- lo` (R26, R171). -/
def writePair (rd : RegNum) (hi lo : Word) (s : State) : State :=
  writeReg .rdOdd (pairOdd rd) lo (writeReg .rd (pairEven rd) hi s)

/-- A doubleword load (R171). -/
def loadPairTo (asi : Asi) (ea : Word) (rd : RegNum) (s : State) : Outcome :=
  checkedAccess .read 8 asi ea s
    (.next (advance (writePair rd (loadWord false asi ea s) (loadWord false asi (ea + 4#32) s) s)))

/-- A store of `n` bytes that leads to the memory of `t` (R161). -/
def storeFrom (n : Nat) (asi : Asi) (ea : Word) (t : State) (s : State) : Outcome :=
  checkedAccess .write n asi ea s (.next (advance t))

/-- r[rd] as the source of a store (R180). -/
def storeSource (rd : RegNum) (s : State) : Word := readReg .rd rd s

/-- The state after the eight bytes of a pair are stored (R183). -/
def storePair (asi : Asi) (ea : Word) (rd : RegNum) (s : State) : State :=
  storeDouble asi ea (readReg .rd (pairEven rd) s) (readReg .rdOdd (pairOdd rd) s) s

/-- A byte, half-word or word read for a register (R166 to R170). -/
def loadedUnsignedByte (asi : Asi) (ea : Word) (s : State) : Word := (loadByte false asi ea s).zeroExtend 32
def loadedSignedByte (asi : Asi) (ea : Word) (s : State) : Word := (loadByte false asi ea s).signExtend 32
def loadedUnsignedHalf (asi : Asi) (ea : Word) (s : State) : Word := (loadHalf asi ea s).zeroExtend 32
def loadedSignedHalf (asi : Asi) (ea : Word) (s : State) : Word := (loadHalf asi ea s).signExtend 32

/-! ### Ordinary forms -/

/-- LD (R166). -/
def execLd (rd rs1 : RegNum) (op2 : RegImm) (s : State) : Outcome :=
  let ea := effectiveAddress rs1 op2 s
  let asi := dataSpace s
  loadTo 4 asi ea rd (loadWord false asi ea s) s

/-- LDUB (R167). -/
def execLdub (rd rs1 : RegNum) (op2 : RegImm) (s : State) : Outcome :=
  let ea := effectiveAddress rs1 op2 s
  let asi := dataSpace s
  loadTo 1 asi ea rd (loadedUnsignedByte asi ea s) s

/-- LDSB (R168). -/
def execLdsb (rd rs1 : RegNum) (op2 : RegImm) (s : State) : Outcome :=
  let ea := effectiveAddress rs1 op2 s
  let asi := dataSpace s
  loadTo 1 asi ea rd (loadedSignedByte asi ea s) s

/-- LDUH (R169). -/
def execLduh (rd rs1 : RegNum) (op2 : RegImm) (s : State) : Outcome :=
  let ea := effectiveAddress rs1 op2 s
  let asi := dataSpace s
  loadTo 2 asi ea rd (loadedUnsignedHalf asi ea s) s

/-- LDSH (R170). -/
def execLdsh (rd rs1 : RegNum) (op2 : RegImm) (s : State) : Outcome :=
  let ea := effectiveAddress rs1 op2 s
  let asi := dataSpace s
  loadTo 2 asi ea rd (loadedSignedHalf asi ea s) s

/-- LDD (R171). -/
def execLdd (rd rs1 : RegNum) (op2 : RegImm) (s : State) : Outcome :=
  let ea := effectiveAddress rs1 op2 s
  let asi := dataSpace s
  pairRegister rd s (loadPairTo asi ea rd s)

/-- ST (R180). -/
def execSt (rd rs1 : RegNum) (op2 : RegImm) (s : State) : Outcome :=
  let ea := effectiveAddress rs1 op2 s
  let asi := dataSpace s
  storeFrom 4 asi ea (storeWord asi ea (storeSource rd s) s) s

/-- STB (R181). -/
def execStb (rd rs1 : RegNum) (op2 : RegImm) (s : State) : Outcome :=
  let ea := effectiveAddress rs1 op2 s
  let asi := dataSpace s
  storeFrom 1 asi ea (storeByte asi ea ((storeSource rd s).extractLsb' 0 8) s) s

/-- STH (R182). -/
def execSth (rd rs1 : RegNum) (op2 : RegImm) (s : State) : Outcome :=
  let ea := effectiveAddress rs1 op2 s
  let asi := dataSpace s
  storeFrom 2 asi ea (storeHalf asi ea ((storeSource rd s).extractLsb' 0 16) s) s

/-- STD (R183). -/
def execStd (rd rs1 : RegNum) (op2 : RegImm) (s : State) : Outcome :=
  let ea := effectiveAddress rs1 op2 s
  let asi := dataSpace s
  pairRegister rd s (storeFrom 8 asi ea (storePair asi ea rd s) s)

/-! ### Alternate-space forms (R162) -/

/-- LDA (R172). -/
def execLda (rd rs1 : RegNum) (addr : AltAddr) (s : State) : Outcome :=
  match addr with
  | .imm _ => alternateImmediate s
  | .reg rs2 asi =>
    let ea := alternateAddress rs1 rs2 s
    privilegedForm false s (loadTo 4 asi ea rd (loadWord false asi ea s) s)

/-- LDUBA (R173). -/
def execLduba (rd rs1 : RegNum) (addr : AltAddr) (s : State) : Outcome :=
  match addr with
  | .imm _ => alternateImmediate s
  | .reg rs2 asi =>
    let ea := alternateAddress rs1 rs2 s
    privilegedForm false s (loadTo 1 asi ea rd (loadedUnsignedByte asi ea s) s)

/-- LDSBA (R174). -/
def execLdsba (rd rs1 : RegNum) (addr : AltAddr) (s : State) : Outcome :=
  match addr with
  | .imm _ => alternateImmediate s
  | .reg rs2 asi =>
    let ea := alternateAddress rs1 rs2 s
    privilegedForm false s (loadTo 1 asi ea rd (loadedSignedByte asi ea s) s)

/-- LDUHA (R175). -/
def execLduha (rd rs1 : RegNum) (addr : AltAddr) (s : State) : Outcome :=
  match addr with
  | .imm _ => alternateImmediate s
  | .reg rs2 asi =>
    let ea := alternateAddress rs1 rs2 s
    privilegedForm false s (loadTo 2 asi ea rd (loadedUnsignedHalf asi ea s) s)

/-- LDSHA (R176). -/
def execLdsha (rd rs1 : RegNum) (addr : AltAddr) (s : State) : Outcome :=
  match addr with
  | .imm _ => alternateImmediate s
  | .reg rs2 asi =>
    let ea := alternateAddress rs1 rs2 s
    privilegedForm false s (loadTo 2 asi ea rd (loadedSignedHalf asi ea s) s)

/-- LDDA (R177). -/
def execLdda (rd rs1 : RegNum) (addr : AltAddr) (s : State) : Outcome :=
  match addr with
  | .imm _ => alternateImmediate s
  | .reg rs2 asi =>
    let ea := alternateAddress rs1 rs2 s
    privilegedPair rd s (loadPairTo asi ea rd s)

/-- STA (R184). -/
def execSta (rd rs1 : RegNum) (addr : AltAddr) (s : State) : Outcome :=
  match addr with
  | .imm _ => alternateImmediate s
  | .reg rs2 asi =>
    let ea := alternateAddress rs1 rs2 s
    privilegedForm false s (storeFrom 4 asi ea (storeWord asi ea (storeSource rd s) s) s)

/-- STBA (R185). -/
def execStba (rd rs1 : RegNum) (addr : AltAddr) (s : State) : Outcome :=
  match addr with
  | .imm _ => alternateImmediate s
  | .reg rs2 asi =>
    let ea := alternateAddress rs1 rs2 s
    privilegedForm false s (storeFrom 1 asi ea (storeByte asi ea ((storeSource rd s).extractLsb' 0 8) s) s)

/-- STHA (R186). -/
def execStha (rd rs1 : RegNum) (addr : AltAddr) (s : State) : Outcome :=
  match addr with
  | .imm _ => alternateImmediate s
  | .reg rs2 asi =>
    let ea := alternateAddress rs1 rs2 s
    privilegedForm false s (storeFrom 2 asi ea (storeHalf asi ea ((storeSource rd s).extractLsb' 0 16) s) s)

/-- STDA (R187). -/
def execStda (rd rs1 : RegNum) (addr : AltAddr) (s : State) : Outcome :=
  match addr with
  | .imm _ => alternateImmediate s
  | .reg rs2 asi =>
    let ea := alternateAddress rs1 rs2 s
    privilegedPair rd s (storeFrom 8 asi ea (storePair asi ea rd s) s)

end Sys2Proof.Machine
end

