-- ==== Sys2Proof/Machine/Atomic.lean ====
section
/-! DEFINITION. Atomic load-stores (42_atomic.md). -/

namespace Sys2Proof.Machine

/-- AtomicBegin of R240: the memory is held. -/
def atomicBegin (s : State) : State := { s with busLock := true }

/-- AtomicEnd of R240. -/
def atomicEnd (s : State) : State := { s with busLock := false }

/-- `b = MemRead(asi, ea, 1); MemWrite(asi, ea, 1, 0xFF); r[rd] <- zext(b)` (R242). -/
def loadStoreByte (asi : Asi) (ea : Word) (rd : RegNum) (s : State) : Outcome :=
  checkedAccess .atomic 1 asi ea s
    (.next (advance (writeReg .rd rd (loadedUnsignedByte asi ea s)
      (atomicEnd (storeByte asi ea 0xFF#8 (atomicBegin s))))))

/-- `temp = r[rd]`, an access of its own beside the later write of r[rd] (R244, R570). -/
def swapSource (rd : RegNum) (s : State) : Word := readReg .rdStored rd s

/-- `temp = r[rd]; word = MemRead(asi, ea, 4); MemWrite(asi, ea, 4, temp); r[rd] <- word` (R244). -/
def swapWord (asi : Asi) (ea : Word) (rd : RegNum) (s : State) : Outcome :=
  checkedAccess .atomic 4 asi ea s
    (.next (advance (writeReg .rd rd (loadWord false asi ea s)
      (atomicEnd (storeWord asi ea (swapSource rd s) (atomicBegin s))))))

/-- LDSTUB (R242). -/
def execLdstub (rd rs1 : RegNum) (op2 : RegImm) (s : State) : Outcome :=
  loadStoreByte (dataSpace s) (effectiveAddress rs1 op2 s) rd s

/-- LDSTUBA (R243). -/
def execLdstuba (rd rs1 : RegNum) (addr : AltAddr) (s : State) : Outcome :=
  match addr with
  | .imm _ => alternateImmediate s
  | .reg rs2 asi => privilegedForm false s (loadStoreByte asi (alternateAddress rs1 rs2 s) rd s)

/-- SWAP (R244). -/
def execSwap (rd rs1 : RegNum) (op2 : RegImm) (s : State) : Outcome :=
  swapWord (dataSpace s) (effectiveAddress rs1 op2 s) rd s

/-- SWAPA (R245). -/
def execSwapa (rd rs1 : RegNum) (addr : AltAddr) (s : State) : Outcome :=
  match addr with
  | .imm _ => alternateImmediate s
  | .reg rs2 asi => privilegedForm false s (swapWord asi (alternateAddress rs1 rs2 s) rd s)

end Sys2Proof.Machine
end

