-- ==== Sys2Proof/Machine/CpLoadStore.lean ====
section
/-! DEFINITION. The checks of a coprocessor instruction and the coprocessor loads and stores
(41_fp_cp_load_store.md R202, R215 to R221; log 24). -/

namespace Sys2Proof.Machine

/-- `c[n]` (R60). -/
def readC (n : RegNum) (s : State) : Word := s.cp.c.get ⟨n.toNat, n.isLt⟩

/-- `c[n] <- v` (R60). -/
def writeC (n : RegNum) (v : Word) (s : State) : State :=
  { s with cp := { s.cp with c := s.cp.c.set n.toNat v n.isLt } }

/-- A coprocessor is present and PSR.EC = 1 (R202 step 2, R570). -/
def cpEnabled (s : State) : Bool :=
  s.cfg.hasCp && (if s.delays.psr.ec then freeBit s.draws .enableCp else s.psr.ec)

/-- The coprocessor takes the state that its implementation gives it after a trap (R202). -/
def cpTrapped (s : State) : State := { s with cp := Config.cpAfterTrap s.draws s.cp }

/-- A trap of a coprocessor load leaves the state of a present coprocessor to its implementation (R215 to R217). -/
def cpLoadTrapped (load : Bool) (s : State) : State := if load && s.cfg.hasCp then cpTrapped s else s

/-- cp_exception (R202 step 4, R541). -/
def takeCpException (s : State) : Outcome := raise .cpException (cpTrapped s)

/-- The checks of a CPop or a CBccc (R346, R460). -/
def cpOperate (s : State) (k : Outcome) : Outcome :=
  if cpEnabled s then (if s.cp.pending then takeCpException s else k) else raise .cpDisabled s

/-- The checks of a coprocessor load or store, steps 2 to 5 of R202. -/
def cpAccess (load : Bool) (kind : AccessKind) (n : Nat) (asi : Asi) (ea : Word) (s : State) (k : Outcome) : Outcome :=
  if cpEnabled s then
    if alignedTo n ea then
      if s.cp.pending then takeCpException s
      else if accessOk s.cfg kind n asi ea then k
      else raise .dataAccessException (cpLoadTrapped load s)
    else raise .memoryAddressNotAligned (cpLoadTrapped load s)
  else raise .cpDisabled (cpLoadTrapped load s)

/-- LDC (R215). -/
def execLdc (rd rs1 : RegNum) (op2 : RegImm) (s : State) : Outcome :=
  let ea := effectiveAddress rs1 op2 s
  let asi := dataSpace s
  cpAccess true .read 4 asi ea s (.next (advance (writeC rd (loadWord false asi ea s) s)))

/-- LDDC (R216). That an odd rd is refused before cp_disabled is tested is a DESIGN CHOICE (log 50). -/
def execLddc (rd rs1 : RegNum) (op2 : RegImm) (s : State) : Outcome :=
  let ea := effectiveAddress rs1 op2 s
  let asi := dataSpace s
  if oddRdIllegal rd s then raise .illegalInstruction (cpLoadTrapped true s)
  else if oddRdRefused rd s then .refused .oddRegister
  else cpAccess true .read 8 asi ea s
    (.next (advance (writeC (pairOdd rd) (loadWord false asi (ea + 4#32) s)
      (writeC (pairEven rd) (loadWord false asi ea s) s))))

/-- LDCSR (R217). -/
def execLdcsr (rs1 : RegNum) (op2 : RegImm) (s : State) : Outcome :=
  let ea := effectiveAddress rs1 op2 s
  let asi := dataSpace s
  cpAccess true .read 4 asi ea s (.next (advance { s with cp := { s.cp with csr := loadWord false asi ea s } }))

/-- STC (R218). -/
def execStc (rd rs1 : RegNum) (op2 : RegImm) (s : State) : Outcome :=
  let ea := effectiveAddress rs1 op2 s
  let asi := dataSpace s
  cpAccess false .write 4 asi ea s (.next (advance (storeWord asi ea (readC rd s) s)))

/-- STDC (R219). That an odd rd is refused before cp_disabled is tested is a DESIGN CHOICE (log 50). -/
def execStdc (rd rs1 : RegNum) (op2 : RegImm) (s : State) : Outcome :=
  let ea := effectiveAddress rs1 op2 s
  let asi := dataSpace s
  pairRegister rd s
    (cpAccess false .write 8 asi ea s
      (.next (advance (storeDouble asi ea (readC (pairEven rd) s) (readC (pairOdd rd) s) s))))

/-- STCSR (R220). -/
def execStcsr (rs1 : RegNum) (op2 : RegImm) (s : State) : Outcome :=
  let ea := effectiveAddress rs1 op2 s
  let asi := dataSpace s
  cpAccess false .write 4 asi ea s (.next (advance (storeWord asi ea s.cp.csr s)))

/-- The front entry of the coprocessor queue; of an empty one R221 says nothing, and each word is free (log 24). -/
def cpFrontEntry (s : State) : QueueEntry :=
  match s.cp.queue with
  | e :: _ => e
  | [] => { addr := Config.freeBits 32 s.draws (.cpEmptyQueue false)
            instr := Config.freeBits 32 s.draws (.cpEmptyQueue true) }

/-- STDCQ (R221): whether the queue advances is left to the coprocessor. -/
def execStdcq (rs1 : RegNum) (op2 : RegImm) (s : State) : Outcome :=
  let ea := effectiveAddress rs1 op2 s
  let asi := dataSpace s
  if privileged s then
    cpAccess false .write 8 asi ea s
      (.next (advance
        { storeDouble asi ea (cpFrontEntry s).addr (cpFrontEntry s).instr s with
          cp := { s.cp with queue := Config.cpQueueAfterStore s.draws s.cp.queue } }))
  else raise .privilegedInstruction s

end Sys2Proof.Machine
end

