-- ==== Sys2Proof/Machine/FpLoadStore.lean ====
section
/-! DEFINITION. The checks of a floating-point instruction and the floating-point loads and stores
(41_fp_cp_load_store.md R200 to R211, 10_state.md R55 to R59). -/

namespace Sys2Proof.Machine

/-! ### The FPU's registers -/

/-- `f[n]` (R55). -/
def readF (n : RegNum) (s : State) : Word := s.fpu.f.get ⟨n.toNat, n.isLt⟩

/-- `f[n] <- v` (R55). -/
def writeF (n : RegNum) (v : Word) (s : State) : State :=
  { s with fpu := { s.fpu with f := s.fpu.f.set n.toNat v n.isLt } }

/-- `FSR.ftt <- v` (R56). -/
def setFtt (v : BitVec 3) (s : State) : State :=
  { s with fpu := { s.fpu with fsr := { s.fpu.fsr with ftt := v } } }

/-- `fpu_mode <- m` (R59). -/
def setFpuMode (m : FpuMode) (s : State) : State := { s with fpu := { s.fpu with mode := m } }

/-- FSR.qne: the queue holds an entry (R56, R57). -/
def queueNotEmpty (s : State) : Bool := !s.fpu.queue.isEmpty

/-- The FSR as STFSR stores it (R56, R210): the reserved bits zero, ver the parameter, qne from the queue. -/
def fsrWord (s : State) : Word :=
  s.fpu.fsr.rd ++ 0#2 ++ s.fpu.fsr.tem ++ BitVec.ofBool s.fpu.fsr.ns ++ 0#2 ++ s.cfg.fsrVer ++ s.fpu.fsr.ftt
    ++ BitVec.ofBool (queueNotEmpty s) ++ 0#1 ++ s.fpu.fsr.fcc ++ s.fpu.fsr.aexc ++ s.fpu.fsr.cexc

/-- The FSR after LDFSR of `w`: RD, TEM, NS, fcc, aexc and cexc are written (R207). -/
def loadFsr (w : Word) (old : Fsr) : Fsr where
  rd := w.extractLsb' 30 2
  tem := w.extractLsb' 23 5
  ns := w.getLsbD 22
  ftt := old.ftt
  fcc := w.extractLsb' 10 2
  aexc := w.extractLsb' 5 5
  cexc := w.extractLsb' 0 5

/-! ### The checks -/

/-- An FPU is present and PSR.EF = 1 (R201 step 2, R570). -/
def fpEnabled (s : State) : Bool :=
  s.cfg.hasFpu && (if s.delays.psr.ef then freeBit s.draws .enableFp else s.psr.ef)

/-- A pending FP exception is taken now (R59, R201 step 4, R411 step 2). -/
def takePendingFpException (s : State) : Outcome := raise .fpException (setFpuMode .exception s)

/-- fp_exception with ftt = sequence_error (R59, R201 step 4). -/
def fpSequenceError (s : State) : Outcome := raise .fpException (setFtt 4#3 s)

/-- The state of the FPU, when an instruction is met that `sequenceError` says may not run now (R59); `k` when the
FPU lets it run. -/
def fpuReady (sequenceError : Bool) (s : State) (k : Outcome) : Outcome :=
  if s.fpu.mode = .exceptionPending then takePendingFpException s
  else if sequenceError then fpSequenceError s
  else k

/-- The checks of an FPop or an FBfcc (R345, R411 steps 1 to 3). -/
def fpOperate (s : State) (k : Outcome) : Outcome :=
  if fpEnabled s then fpuReady (decide (s.fpu.mode = .exception)) s k else raise .fpDisabled s

/-- The checks of a floating-point load or store, steps 2 to 5 of R201. -/
def fpAccess (kind : AccessKind) (n : Nat) (sequenceError : Bool) (asi : Asi) (ea : Word) (s : State) (k : Outcome) :
    Outcome :=
  if fpEnabled s then
    if alignedTo n ea then
      fpuReady sequenceError s (if accessOk s.cfg kind n asi ea then k else raise .dataAccessException s)
    else raise .memoryAddressNotAligned s
  else raise .fpDisabled s

/-- The sequence error of a load: the queue is being drained (R201 step 4). -/
def drainingQueue (s : State) : Bool := decide (s.fpu.mode = .exception)

/-! ### Loads -/

/-- LDF (R205). -/
def execLdf (rd rs1 : RegNum) (op2 : RegImm) (s : State) : Outcome :=
  let ea := effectiveAddress rs1 op2 s
  let asi := dataSpace s
  fpAccess .read 4 (drainingQueue s) asi ea s (.next (advance (writeF rd (loadWord false asi ea s) s)))

/-- LDDF (R206). That an odd rd is refused before fp_disabled is tested is a DESIGN CHOICE (log 50). -/
def execLddf (rd rs1 : RegNum) (op2 : RegImm) (s : State) : Outcome :=
  let ea := effectiveAddress rs1 op2 s
  let asi := dataSpace s
  pairRegister rd s
    (fpAccess .read 8 (drainingQueue s) asi ea s
      (.next (advance (writeF (pairOdd rd) (loadWord false asi (ea + 4#32) s)
        (writeF (pairEven rd) (loadWord false asi ea s) s)))))

/-- LDFSR (R207). -/
def execLdfsr (rs1 : RegNum) (op2 : RegImm) (s : State) : Outcome :=
  let ea := effectiveAddress rs1 op2 s
  let asi := dataSpace s
  fpAccess .read 4 (drainingQueue s) asi ea s
    (.next (advance { s with fpu := { s.fpu with fsr := loadFsr (loadWord false asi ea s) s.fpu.fsr } }))

/-! ### Stores -/

/-- STF (R208). -/
def execStf (rd rs1 : RegNum) (op2 : RegImm) (s : State) : Outcome :=
  let ea := effectiveAddress rs1 op2 s
  let asi := dataSpace s
  fpAccess .write 4 false asi ea s (.next (advance (storeWord asi ea (readF rd s) s)))

/-- STDF (R209). That an odd rd is refused before fp_disabled is tested is a DESIGN CHOICE (log 50). -/
def execStdf (rd rs1 : RegNum) (op2 : RegImm) (s : State) : Outcome :=
  let ea := effectiveAddress rs1 op2 s
  let asi := dataSpace s
  pairRegister rd s
    (fpAccess .write 8 false asi ea s
      (.next (advance (storeDouble asi ea (readF (pairEven rd) s) (readF (pairOdd rd) s) s))))

/-- STFSR (R210). -/
def execStfsr (rs1 : RegNum) (op2 : RegImm) (s : State) : Outcome :=
  let ea := effectiveAddress rs1 op2 s
  let asi := dataSpace s
  fpAccess .write 4 false asi ea s (.next (advance (storeWord asi ea (fsrWord s) s)))

/-- The front entry of the FQ. -/
def frontEntry (s : State) : QueueEntry := s.fpu.queue.headD { addr := 0#32, instr := 0#32 }

/-- The queue after STDFQ: in exception mode the front entry goes, and an empty queue ends the mode (R211). -/
def advanceQueue (s : State) : State :=
  if s.fpu.mode = .exception then
    { s with fpu := { s.fpu with
        queue := s.fpu.queue.tail
        mode := if s.fpu.queue.tail.isEmpty then .execute else .exception } }
  else s

/-- STDFQ (R211). -/
def execStdfq (rs1 : RegNum) (op2 : RegImm) (s : State) : Outcome :=
  let ea := effectiveAddress rs1 op2 s
  let asi := dataSpace s
  if privileged s then
    fpAccess .write 8 (!queueNotEmpty s) asi ea s
      (.next (advance (advanceQueue (storeDouble asi ea (frontEntry s).addr (frontEntry s).instr s))))
  else raise .privilegedInstruction s

end Sys2Proof.Machine
end

