-- ==== Sys2Proof/Machine/Control.lean ====
section
/-! DEFINITION. Branches, CALL, JMPL, SAVE, RESTORE, RETT and Ticc (45_control_transfer.md). -/

namespace Sys2Proof.Machine

/-! ### Branching and annulment (R342) -/

/-- The annul flag set (R33, R342). -/
def annulNext (s : State) : State := { s with annul := true }

/-- R342 for a branch whose condition is not the code 1000. -/
def branch (taken : Bool) (a : Bool) (disp22 : BitVec 22) (s : State) : State :=
  if taken then transfer (branchTarget disp22 s) s
  else if a then annulNext (advance s) else advance s

/-- R342 for the condition code 1000: taken, and its delay instruction annulled when a = 1. -/
def branchAlways (a : Bool) (disp22 : BitVec 22) (s : State) : State :=
  if a then annulNext (transfer (branchTarget disp22 s) s) else transfer (branchTarget disp22 s) s

/-- A Bicc other than BA (R343). -/
def branchIcc (test : Icc → Bool) (a : Bool) (disp22 : BitVec 22) (s : State) : Outcome :=
  .next (branch (test (iccInUse s)) a disp22 s)

/-- An FBfcc other than FBA, taken when fcc is E, L, G, U as the four marks say (R345). -/
def branchFcc (e l g u : Bool) (a : Bool) (disp22 : BitVec 22) (s : State) : Outcome :=
  fpOperate s (.next (branch (codeIn e l g u s.fpu.fsr.fcc) a disp22 s))

/-- A CBccc other than CBA, taken when the condition is 0, 1, 2, 3 as the four marks say (R346). -/
def branchCcc (on0 on1 on2 on3 : Bool) (a : Bool) (disp22 : BitVec 22) (s : State) : Outcome :=
  cpOperate s (.next (branch (codeIn on0 on1 on2 on3 s.cp.ccc) a disp22 s))

/-! ### Bicc (R343) -/

/-- BN (R343, R341). -/
def execBn (a : Bool) (disp22 : BitVec 22) (s : State) : Outcome := branchIcc condNever a disp22 s

/-- BE (R343, R341). -/
def execBe (a : Bool) (disp22 : BitVec 22) (s : State) : Outcome := branchIcc condEqual a disp22 s

/-- BLE (R343, R341). -/
def execBle (a : Bool) (disp22 : BitVec 22) (s : State) : Outcome := branchIcc condLessOrEqual a disp22 s

/-- BL (R343, R341). -/
def execBl (a : Bool) (disp22 : BitVec 22) (s : State) : Outcome := branchIcc condLess a disp22 s

/-- BLEU (R343, R341). -/
def execBleu (a : Bool) (disp22 : BitVec 22) (s : State) : Outcome := branchIcc condLessOrEqualUnsigned a disp22 s

/-- BCS (R343, R341). -/
def execBcs (a : Bool) (disp22 : BitVec 22) (s : State) : Outcome := branchIcc condCarrySet a disp22 s

/-- BNEG (R343, R341). -/
def execBneg (a : Bool) (disp22 : BitVec 22) (s : State) : Outcome := branchIcc condNegative a disp22 s

/-- BVS (R343, R341). -/
def execBvs (a : Bool) (disp22 : BitVec 22) (s : State) : Outcome := branchIcc condOverflowSet a disp22 s

/-- BA (R343, R341). -/
def execBa (a : Bool) (disp22 : BitVec 22) (s : State) : Outcome := .next (branchAlways a disp22 s)

/-- BNE (R343, R341). -/
def execBne (a : Bool) (disp22 : BitVec 22) (s : State) : Outcome := branchIcc condNotEqual a disp22 s

/-- BG (R343, R341). -/
def execBg (a : Bool) (disp22 : BitVec 22) (s : State) : Outcome := branchIcc condGreater a disp22 s

/-- BGE (R343, R341). -/
def execBge (a : Bool) (disp22 : BitVec 22) (s : State) : Outcome := branchIcc condGreaterOrEqual a disp22 s

/-- BGU (R343, R341). -/
def execBgu (a : Bool) (disp22 : BitVec 22) (s : State) : Outcome := branchIcc condGreaterUnsigned a disp22 s

/-- BCC (R343, R341). -/
def execBcc (a : Bool) (disp22 : BitVec 22) (s : State) : Outcome := branchIcc condCarryClear a disp22 s

/-- BPOS (R343, R341). -/
def execBpos (a : Bool) (disp22 : BitVec 22) (s : State) : Outcome := branchIcc condPositive a disp22 s

/-- BVC (R343, R341). -/
def execBvc (a : Bool) (disp22 : BitVec 22) (s : State) : Outcome := branchIcc condOverflowClear a disp22 s

/-! ### FBfcc (R345) -/

/-- FBN (R345). -/
def execFbn (a : Bool) (disp22 : BitVec 22) (s : State) : Outcome :=
  branchFcc false false false false a disp22 s

/-- FBNE (R345). -/
def execFbne (a : Bool) (disp22 : BitVec 22) (s : State) : Outcome :=
  branchFcc false true true true a disp22 s

/-- FBLG (R345). -/
def execFblg (a : Bool) (disp22 : BitVec 22) (s : State) : Outcome :=
  branchFcc false true true false a disp22 s

/-- FBUL (R345). -/
def execFbul (a : Bool) (disp22 : BitVec 22) (s : State) : Outcome :=
  branchFcc false true false true a disp22 s

/-- FBL (R345). -/
def execFbl (a : Bool) (disp22 : BitVec 22) (s : State) : Outcome :=
  branchFcc false true false false a disp22 s

/-- FBUG (R345). -/
def execFbug (a : Bool) (disp22 : BitVec 22) (s : State) : Outcome :=
  branchFcc false false true true a disp22 s

/-- FBG (R345). -/
def execFbg (a : Bool) (disp22 : BitVec 22) (s : State) : Outcome :=
  branchFcc false false true false a disp22 s

/-- FBU (R345). -/
def execFbu (a : Bool) (disp22 : BitVec 22) (s : State) : Outcome :=
  branchFcc false false false true a disp22 s

/-- FBA (R345). -/
def execFba (a : Bool) (disp22 : BitVec 22) (s : State) : Outcome :=
  fpOperate s (.next (branchAlways a disp22 s))

/-- FBE (R345). -/
def execFbe (a : Bool) (disp22 : BitVec 22) (s : State) : Outcome :=
  branchFcc true false false false a disp22 s

/-- FBUE (R345). -/
def execFbue (a : Bool) (disp22 : BitVec 22) (s : State) : Outcome :=
  branchFcc true false false true a disp22 s

/-- FBGE (R345). -/
def execFbge (a : Bool) (disp22 : BitVec 22) (s : State) : Outcome :=
  branchFcc true false true false a disp22 s

/-- FBUGE (R345). -/
def execFbuge (a : Bool) (disp22 : BitVec 22) (s : State) : Outcome :=
  branchFcc true false true true a disp22 s

/-- FBLE (R345). -/
def execFble (a : Bool) (disp22 : BitVec 22) (s : State) : Outcome :=
  branchFcc true true false false a disp22 s

/-- FBULE (R345). -/
def execFbule (a : Bool) (disp22 : BitVec 22) (s : State) : Outcome :=
  branchFcc true true false true a disp22 s

/-- FBO (R345). -/
def execFbo (a : Bool) (disp22 : BitVec 22) (s : State) : Outcome :=
  branchFcc true true true false a disp22 s

/-! ### CBccc (R346) -/

/-- CBN (R346). -/
def execCbn (a : Bool) (disp22 : BitVec 22) (s : State) : Outcome :=
  branchCcc false false false false a disp22 s

/-- CB123 (R346). -/
def execCb123 (a : Bool) (disp22 : BitVec 22) (s : State) : Outcome :=
  branchCcc false true true true a disp22 s

/-- CB12 (R346). -/
def execCb12 (a : Bool) (disp22 : BitVec 22) (s : State) : Outcome :=
  branchCcc false true true false a disp22 s

/-- CB13 (R346). -/
def execCb13 (a : Bool) (disp22 : BitVec 22) (s : State) : Outcome :=
  branchCcc false true false true a disp22 s

/-- CB1 (R346). -/
def execCb1 (a : Bool) (disp22 : BitVec 22) (s : State) : Outcome :=
  branchCcc false true false false a disp22 s

/-- CB23 (R346). -/
def execCb23 (a : Bool) (disp22 : BitVec 22) (s : State) : Outcome :=
  branchCcc false false true true a disp22 s

/-- CB2 (R346). -/
def execCb2 (a : Bool) (disp22 : BitVec 22) (s : State) : Outcome :=
  branchCcc false false true false a disp22 s

/-- CB3 (R346). -/
def execCb3 (a : Bool) (disp22 : BitVec 22) (s : State) : Outcome :=
  branchCcc false false false true a disp22 s

/-- CBA (R346). -/
def execCba (a : Bool) (disp22 : BitVec 22) (s : State) : Outcome :=
  cpOperate s (.next (branchAlways a disp22 s))

/-- CB0 (R346). -/
def execCb0 (a : Bool) (disp22 : BitVec 22) (s : State) : Outcome :=
  branchCcc true false false false a disp22 s

/-- CB03 (R346). -/
def execCb03 (a : Bool) (disp22 : BitVec 22) (s : State) : Outcome :=
  branchCcc true false false true a disp22 s

/-- CB02 (R346). -/
def execCb02 (a : Bool) (disp22 : BitVec 22) (s : State) : Outcome :=
  branchCcc true false true false a disp22 s

/-- CB023 (R346). -/
def execCb023 (a : Bool) (disp22 : BitVec 22) (s : State) : Outcome :=
  branchCcc true false true true a disp22 s

/-- CB01 (R346). -/
def execCb01 (a : Bool) (disp22 : BitVec 22) (s : State) : Outcome :=
  branchCcc true true false false a disp22 s

/-- CB013 (R346). -/
def execCb013 (a : Bool) (disp22 : BitVec 22) (s : State) : Outcome :=
  branchCcc true true false true a disp22 s

/-- CB012 (R346). -/
def execCb012 (a : Bool) (disp22 : BitVec 22) (s : State) : Outcome :=
  branchCcc true true true false a disp22 s

/-! ### CALL and JMPL -/

/-- CALL (R348). -/
def execCall (disp30 : BitVec 30) (s : State) : Outcome :=
  .next (transfer (callTarget disp30 s) (writeReg .rd 15#5 s.pc s))

/-- JMPL (R349). -/
def execJmpl (rd rs1 : RegNum) (op2 : RegImm) (s : State) : Outcome :=
  let target := effectiveAddress rs1 op2 s
  if aligned4 target then .next (transfer target (writeReg .rd rd s.pc s)) else raise .memoryAddressNotAligned s

/-! ### The windows -/

/-- The end of a SAVE or a RESTORE whose window is valid: the sum is read in the old window and written in the new
one (R350, R351). -/
def moveWindow (ncwp : WindowNum) (rd : RegNum) (sum : Word) (s : State) : State :=
  advance (writeRegIn ncwp rd sum (setCwp ncwp s))

/-- SAVE (R350). -/
def execSave (rd rs1 : RegNum) (op2 : RegImm) (s : State) : Outcome :=
  let ncwp := windowInUse s - 1#3
  if windowInvalid ncwp s then raise .windowOverflow s
  else .next (moveWindow ncwp rd (effectiveAddress rs1 op2 s) s)

/-- RESTORE (R351). -/
def execRestore (rd rs1 : RegNum) (op2 : RegImm) (s : State) : Outcome :=
  let ncwp := windowInUse s + 1#3
  if windowInvalid ncwp s then raise .windowUnderflow s
  else .next (moveWindow ncwp rd (effectiveAddress rs1 op2 s) s)

/-- RETT (R352): with ET = 1 a trap, by PRIV_BEFORE_ILLEGAL in user mode; with ET = 0 the three error-mode cases in
the order of the page's sentence, then the return. -/
def execRett (rs1 : RegNum) (op2 : RegImm) (s : State) : Outcome :=
  let target := effectiveAddress rs1 op2 s
  let ncwp := windowInUse s + 1#3
  if trapsEnabledForRett s then
    if !privileged s && s.cfg.privBeforeIllegal then raise .privilegedInstruction s else raise .illegalInstruction s
  else if !privileged s then .next (enterErrorMode .privilegedInstruction s)
  else if windowInvalid ncwp s then .next (enterErrorMode .windowUnderflow s)
  else if !aligned4 target then .next (enterErrorMode .memoryAddressNotAligned s)
  else .next (returnFromTrap ncwp target s)

/-! ### Ticc (R355) -/

/-- The trap number of a Ticc: bits 6:0 of the sum (R355). -/
def trapNumber (rs1 : RegNum) (op2 : RegImm) (s : State) : BitVec 7 := (effectiveAddress rs1 op2 s).extractLsb' 0 7

/-- A Ticc by its condition (R355). -/
def trapOn (test : Icc → Bool) (rs1 : RegNum) (op2 : RegImm) (s : State) : Outcome :=
  if test (iccInUse s) then raise (.trapInstruction (trapNumber rs1 op2 s)) s else .next (advance s)

/-- TN (R355, R341). -/
def execTn (rs1 : RegNum) (op2 : RegImm) (s : State) : Outcome := trapOn condNever rs1 op2 s

/-- TE (R355, R341). -/
def execTe (rs1 : RegNum) (op2 : RegImm) (s : State) : Outcome := trapOn condEqual rs1 op2 s

/-- TLE (R355, R341). -/
def execTle (rs1 : RegNum) (op2 : RegImm) (s : State) : Outcome := trapOn condLessOrEqual rs1 op2 s

/-- TL (R355, R341). -/
def execTl (rs1 : RegNum) (op2 : RegImm) (s : State) : Outcome := trapOn condLess rs1 op2 s

/-- TLEU (R355, R341). -/
def execTleu (rs1 : RegNum) (op2 : RegImm) (s : State) : Outcome := trapOn condLessOrEqualUnsigned rs1 op2 s

/-- TCS (R355, R341). -/
def execTcs (rs1 : RegNum) (op2 : RegImm) (s : State) : Outcome := trapOn condCarrySet rs1 op2 s

/-- TNEG (R355, R341). -/
def execTneg (rs1 : RegNum) (op2 : RegImm) (s : State) : Outcome := trapOn condNegative rs1 op2 s

/-- TVS (R355, R341). -/
def execTvs (rs1 : RegNum) (op2 : RegImm) (s : State) : Outcome := trapOn condOverflowSet rs1 op2 s

/-- TA (R355, R341). -/
def execTa (rs1 : RegNum) (op2 : RegImm) (s : State) : Outcome := trapOn condAlways rs1 op2 s

/-- TNE (R355, R341). -/
def execTne (rs1 : RegNum) (op2 : RegImm) (s : State) : Outcome := trapOn condNotEqual rs1 op2 s

/-- TG (R355, R341). -/
def execTg (rs1 : RegNum) (op2 : RegImm) (s : State) : Outcome := trapOn condGreater rs1 op2 s

/-- TGE (R355, R341). -/
def execTge (rs1 : RegNum) (op2 : RegImm) (s : State) : Outcome := trapOn condGreaterOrEqual rs1 op2 s

/-- TGU (R355, R341). -/
def execTgu (rs1 : RegNum) (op2 : RegImm) (s : State) : Outcome := trapOn condGreaterUnsigned rs1 op2 s

/-- TCC (R355, R341). -/
def execTcc (rs1 : RegNum) (op2 : RegImm) (s : State) : Outcome := trapOn condCarryClear rs1 op2 s

/-- TPOS (R355, R341). -/
def execTpos (rs1 : RegNum) (op2 : RegImm) (s : State) : Outcome := trapOn condPositive rs1 op2 s

/-- TVC (R355, R341). -/
def execTvc (rs1 : RegNum) (op2 : RegImm) (s : State) : Outcome := trapOn condOverflowClear rs1 op2 s

end Sys2Proof.Machine
end

