-- ==== Sys2Proof/WellFormed.lean ====
section
/-! DEFINITION. Which terms of Instr are the reading of a word: RDASR of register 0 and WRASR of register 0 are not,
their words are RDY and WRY (R382, R392). -/

namespace Sys2Proof

/-- Why a term of Instr is not the reading of any word. -/
inductive IllFormed where
  /-- RDASR with rs1 = 0: that word is RDY (R382). -/
  | readOfAsrZero
  /-- WRASR with rd = 0: that word is WRY (R392). -/
  | writeOfAsrZero
deriving DecidableEq, Repr

/-- The check: the reason a term is ill-formed, if it is. -/
def Instr.illFormed : Instr → Option IllFormed
  | .rdasr _ rs1 => if rs1 = 0 then some .readOfAsrZero else none
  | .wrasr rd _ _ => if rd = 0 then some .writeOfAsrZero else none
  | .call .. | .unimp .. | .sethi .. | .bn .. | .be .. | .ble .. | .bl .. | .bleu .. | .bcs .. | .bneg ..
  | .bvs .. | .ba .. | .bne .. | .bg .. | .bge .. | .bgu .. | .bcc .. | .bpos .. | .bvc .. | .fbn .. | .fbne ..
  | .fblg .. | .fbul .. | .fbl .. | .fbug .. | .fbg .. | .fbu .. | .fba .. | .fbe .. | .fbue .. | .fbge ..
  | .fbuge .. | .fble .. | .fbule .. | .fbo .. | .cbn .. | .cb123 .. | .cb12 .. | .cb13 .. | .cb1 .. | .cb23 ..
  | .cb2 .. | .cb3 .. | .cba .. | .cb0 .. | .cb03 .. | .cb02 .. | .cb023 .. | .cb01 .. | .cb013 .. | .cb012 ..
  | .add .. | .and .. | .or .. | .xor .. | .sub .. | .andn .. | .orn .. | .xnor .. | .addx .. | .umul ..
  | .smul .. | .subx .. | .udiv .. | .sdiv .. | .addcc .. | .andcc .. | .orcc .. | .xorcc .. | .subcc ..
  | .andncc .. | .orncc .. | .xnorcc .. | .addxcc .. | .umulcc .. | .smulcc .. | .subxcc .. | .udivcc ..
  | .sdivcc .. | .taddcc .. | .tsubcc .. | .taddcctv .. | .tsubcctv .. | .mulscc .. | .sll .. | .srl ..
  | .sra .. | .rdy .. | .rdpsr .. | .rdwim .. | .rdtbr .. | .wry .. | .wrpsr .. | .wrwim .. | .wrtbr ..
  | .fmovs .. | .fnegs .. | .fabss .. | .fsqrts .. | .fsqrtd .. | .fsqrtq .. | .fadds .. | .faddd .. | .faddq ..
  | .fsubs .. | .fsubd .. | .fsubq .. | .fmuls .. | .fmuld .. | .fmulq .. | .fdivs .. | .fdivd .. | .fdivq ..
  | .fsmuld .. | .fdmulq .. | .fitos .. | .fitod .. | .fitoq .. | .fstoi .. | .fdtoi .. | .fqtoi .. | .fstod ..
  | .fstoq .. | .fdtos .. | .fdtoq .. | .fqtos .. | .fqtod .. | .fcmps .. | .fcmpd .. | .fcmpq .. | .fcmpes ..
  | .fcmped .. | .fcmpeq .. | .cpop1 .. | .cpop2 .. | .jmpl .. | .rett .. | .tn .. | .te .. | .tle .. | .tl ..
  | .tleu .. | .tcs .. | .tneg .. | .tvs .. | .ta .. | .tne .. | .tg .. | .tge .. | .tgu .. | .tcc .. | .tpos ..
  | .tvc .. | .flush .. | .save .. | .restore .. | .ld .. | .ldub .. | .lduh .. | .ldd .. | .st .. | .stb ..
  | .sth .. | .std .. | .ldsb .. | .ldsh .. | .ldstub .. | .swap .. | .ldf .. | .ldfsr .. | .lddf .. | .stf ..
  | .stfsr .. | .stdfq .. | .stdf .. | .ldc .. | .ldcsr .. | .lddc .. | .stc .. | .stcsr .. | .stdcq ..
  | .stdc .. | .lda .. | .lduba .. | .lduha .. | .ldda .. | .sta .. | .stba .. | .stha .. | .stda .. | .ldsba ..
  | .ldsha .. | .ldstuba .. | .swapa .. => none

/-- An instruction that some word decodes to. -/
abbrev Instr.WellFormed (i : Instr) : Prop := i.illFormed = none

end Sys2Proof
end

