-- ==== Sys2Proof/Decode.lean ====
section
/-! DEFINITION. The decoder (30_encoding.md R120 to R134), total on words and on bytes, and the encoder. -/

namespace Sys2Proof

/-- What a word means: an instruction, or a named reason why it is none. -/
inductive Decoded where
  | instr (i : Instr)
  /-- An op, op2 or op3 that R128 to R130 leave unassigned: raises illegal_instruction (R133, D19). -/
  | unassigned
  /-- An FPop1 or FPop2 word whose opf R131 does not list: an unimplemented FPop, not an illegal word (R412). -/
  | unimplementedFpop
deriving DecidableEq, Repr

/-! ### The fields of R124 -/

def fieldOp (w : Word) : BitVec 2 := w.extractLsb' 30 2
def fieldDisp30 (w : Word) : BitVec 30 := w.extractLsb' 0 30
def fieldRd (w : Word) : RegNum := w.extractLsb' 25 5
def fieldA (w : Word) : BitVec 1 := w.extractLsb' 29 1
def fieldCond (w : Word) : BitVec 4 := w.extractLsb' 25 4
def fieldOp2 (w : Word) : BitVec 3 := w.extractLsb' 22 3
def fieldImm22 (w : Word) : BitVec 22 := w.extractLsb' 0 22
def fieldOp3 (w : Word) : BitVec 6 := w.extractLsb' 19 6
def fieldRs1 (w : Word) : RegNum := w.extractLsb' 14 5
def fieldI (w : Word) : BitVec 1 := w.extractLsb' 13 1
def fieldAsi (w : Word) : Asi := w.extractLsb' 5 8
def fieldSimm13 (w : Word) : BitVec 13 := w.extractLsb' 0 13
def fieldShcnt (w : Word) : BitVec 5 := w.extractLsb' 0 5
def fieldRs2 (w : Word) : RegNum := w.extractLsb' 0 5
def fieldOpf (w : Word) : BitVec 9 := w.extractLsb' 5 9

/-- The second operand of a format-3 word: the i bit chooses (R123, R124). -/
def decodeRegImm (w : Word) : RegImm :=
  if fieldI w = 0#1 then .reg (fieldRs2 w) else .imm (fieldSimm13 w)

/-- The shift count of a format-3 word; bits 12:5 are ignored (R123, R285). -/
def decodeShiftCount (w : Word) : ShiftCount :=
  if fieldI w = 0#1 then .reg (fieldRs2 w) else .imm (fieldShcnt w)

/-- The address of an alternate-space word (R123, R162). -/
def decodeAltAddr (w : Word) : AltAddr :=
  if fieldI w = 0#1 then .reg (fieldRs2 w) (fieldAsi w) else .imm (fieldSimm13 w)

/-- The annul bit of a branch (R122). -/
def decodeAnnul (w : Word) : Bool := fieldA w == 1#1

/-- Bicc by its cond field (R341, R343). -/
def decodeBicc (w : Word) : Instr :=
  let a := decodeAnnul w
  let d := fieldImm22 w
  let k := fieldCond w
  if k = 0#4 then .bn a d
  else if k = 1#4 then .be a d
  else if k = 2#4 then .ble a d
  else if k = 3#4 then .bl a d
  else if k = 4#4 then .bleu a d
  else if k = 5#4 then .bcs a d
  else if k = 6#4 then .bneg a d
  else if k = 7#4 then .bvs a d
  else if k = 8#4 then .ba a d
  else if k = 9#4 then .bne a d
  else if k = 10#4 then .bg a d
  else if k = 11#4 then .bge a d
  else if k = 12#4 then .bgu a d
  else if k = 13#4 then .bcc a d
  else if k = 14#4 then .bpos a d
  else .bvc a d  -- 15

/-- FBfcc by its cond field (R345). -/
def decodeFbfcc (w : Word) : Instr :=
  let a := decodeAnnul w
  let d := fieldImm22 w
  let k := fieldCond w
  if k = 0#4 then .fbn a d
  else if k = 1#4 then .fbne a d
  else if k = 2#4 then .fblg a d
  else if k = 3#4 then .fbul a d
  else if k = 4#4 then .fbl a d
  else if k = 5#4 then .fbug a d
  else if k = 6#4 then .fbg a d
  else if k = 7#4 then .fbu a d
  else if k = 8#4 then .fba a d
  else if k = 9#4 then .fbe a d
  else if k = 10#4 then .fbue a d
  else if k = 11#4 then .fbge a d
  else if k = 12#4 then .fbuge a d
  else if k = 13#4 then .fble a d
  else if k = 14#4 then .fbule a d
  else .fbo a d  -- 15

/-- CBccc by its cond field (R346). -/
def decodeCbccc (w : Word) : Instr :=
  let a := decodeAnnul w
  let d := fieldImm22 w
  let k := fieldCond w
  if k = 0#4 then .cbn a d
  else if k = 1#4 then .cb123 a d
  else if k = 2#4 then .cb12 a d
  else if k = 3#4 then .cb13 a d
  else if k = 4#4 then .cb1 a d
  else if k = 5#4 then .cb23 a d
  else if k = 6#4 then .cb2 a d
  else if k = 7#4 then .cb3 a d
  else if k = 8#4 then .cba a d
  else if k = 9#4 then .cb0 a d
  else if k = 10#4 then .cb03 a d
  else if k = 11#4 then .cb02 a d
  else if k = 12#4 then .cb023 a d
  else if k = 13#4 then .cb01 a d
  else if k = 14#4 then .cb013 a d
  else .cb012 a d  -- 15

/-- Format 2, by op2 (R122, R128). -/
def decodeFormat2 (w : Word) : Decoded :=
  let k := fieldOp2 w
  if k = 0#3 then .instr (.unimp (fieldImm22 w))
  else if k = 2#3 then .instr (decodeBicc w)
  else if k = 4#3 then .instr (.sethi (fieldRd w) (fieldImm22 w))
  else if k = 6#3 then .instr (decodeFbfcc w)
  else if k = 7#3 then .instr (decodeCbccc w)
  else .unassigned

/-- Ticc by its cond field; bit 29 is ignored (R123, R355). -/
def decodeTicc (w : Word) : Instr :=
  let rs1 := fieldRs1 w
  let b := decodeRegImm w
  let k := fieldCond w
  if k = 0#4 then .tn rs1 b
  else if k = 1#4 then .te rs1 b
  else if k = 2#4 then .tle rs1 b
  else if k = 3#4 then .tl rs1 b
  else if k = 4#4 then .tleu rs1 b
  else if k = 5#4 then .tcs rs1 b
  else if k = 6#4 then .tneg rs1 b
  else if k = 7#4 then .tvs rs1 b
  else if k = 8#4 then .ta rs1 b
  else if k = 9#4 then .tne rs1 b
  else if k = 10#4 then .tg rs1 b
  else if k = 11#4 then .tge rs1 b
  else if k = 12#4 then .tgu rs1 b
  else if k = 13#4 then .tcc rs1 b
  else if k = 14#4 then .tpos rs1 b
  else .tvc rs1 b  -- 15

/-- FPop1 by opf (R131). -/
def decodeFpop1 (w : Word) : Decoded :=
  let rd := fieldRd w
  let rs1 := fieldRs1 w
  let rs2 := fieldRs2 w
  let k := fieldOpf w
  if k = 0x001#9 then .instr (.fmovs rd rs1 rs2)
  else if k = 0x005#9 then .instr (.fnegs rd rs1 rs2)
  else if k = 0x009#9 then .instr (.fabss rd rs1 rs2)
  else if k = 0x029#9 then .instr (.fsqrts rd rs1 rs2)
  else if k = 0x02a#9 then .instr (.fsqrtd rd rs1 rs2)
  else if k = 0x02b#9 then .instr (.fsqrtq rd rs1 rs2)
  else if k = 0x041#9 then .instr (.fadds rd rs1 rs2)
  else if k = 0x042#9 then .instr (.faddd rd rs1 rs2)
  else if k = 0x043#9 then .instr (.faddq rd rs1 rs2)
  else if k = 0x045#9 then .instr (.fsubs rd rs1 rs2)
  else if k = 0x046#9 then .instr (.fsubd rd rs1 rs2)
  else if k = 0x047#9 then .instr (.fsubq rd rs1 rs2)
  else if k = 0x049#9 then .instr (.fmuls rd rs1 rs2)
  else if k = 0x04a#9 then .instr (.fmuld rd rs1 rs2)
  else if k = 0x04b#9 then .instr (.fmulq rd rs1 rs2)
  else if k = 0x04d#9 then .instr (.fdivs rd rs1 rs2)
  else if k = 0x04e#9 then .instr (.fdivd rd rs1 rs2)
  else if k = 0x04f#9 then .instr (.fdivq rd rs1 rs2)
  else if k = 0x069#9 then .instr (.fsmuld rd rs1 rs2)
  else if k = 0x06e#9 then .instr (.fdmulq rd rs1 rs2)
  else if k = 0x0c4#9 then .instr (.fitos rd rs1 rs2)
  else if k = 0x0c6#9 then .instr (.fdtos rd rs1 rs2)
  else if k = 0x0c7#9 then .instr (.fqtos rd rs1 rs2)
  else if k = 0x0c8#9 then .instr (.fitod rd rs1 rs2)
  else if k = 0x0c9#9 then .instr (.fstod rd rs1 rs2)
  else if k = 0x0cb#9 then .instr (.fqtod rd rs1 rs2)
  else if k = 0x0cc#9 then .instr (.fitoq rd rs1 rs2)
  else if k = 0x0cd#9 then .instr (.fstoq rd rs1 rs2)
  else if k = 0x0ce#9 then .instr (.fdtoq rd rs1 rs2)
  else if k = 0x0d1#9 then .instr (.fstoi rd rs1 rs2)
  else if k = 0x0d2#9 then .instr (.fdtoi rd rs1 rs2)
  else if k = 0x0d3#9 then .instr (.fqtoi rd rs1 rs2)
  else .unimplementedFpop

/-- FPop2 by opf (R131). -/
def decodeFpop2 (w : Word) : Decoded :=
  let rd := fieldRd w
  let rs1 := fieldRs1 w
  let rs2 := fieldRs2 w
  let k := fieldOpf w
  if k = 0x051#9 then .instr (.fcmps rd rs1 rs2)
  else if k = 0x052#9 then .instr (.fcmpd rd rs1 rs2)
  else if k = 0x053#9 then .instr (.fcmpq rd rs1 rs2)
  else if k = 0x055#9 then .instr (.fcmpes rd rs1 rs2)
  else if k = 0x056#9 then .instr (.fcmped rd rs1 rs2)
  else if k = 0x057#9 then .instr (.fcmpeq rd rs1 rs2)
  else .unimplementedFpop

/-- `op = 10`, by op3 (R129). -/
def decodeArith (w : Word) : Decoded :=
  let rd := fieldRd w
  let rs1 := fieldRs1 w
  let b := decodeRegImm w
  let k := fieldOp3 w
  if k = 0b000000#6 then .instr (.add rd rs1 b)
  else if k = 0b000001#6 then .instr (.and rd rs1 b)
  else if k = 0b000010#6 then .instr (.or rd rs1 b)
  else if k = 0b000011#6 then .instr (.xor rd rs1 b)
  else if k = 0b000100#6 then .instr (.sub rd rs1 b)
  else if k = 0b000101#6 then .instr (.andn rd rs1 b)
  else if k = 0b000110#6 then .instr (.orn rd rs1 b)
  else if k = 0b000111#6 then .instr (.xnor rd rs1 b)
  else if k = 0b001000#6 then .instr (.addx rd rs1 b)
  else if k = 0b001010#6 then .instr (.umul rd rs1 b)
  else if k = 0b001011#6 then .instr (.smul rd rs1 b)
  else if k = 0b001100#6 then .instr (.subx rd rs1 b)
  else if k = 0b001110#6 then .instr (.udiv rd rs1 b)
  else if k = 0b001111#6 then .instr (.sdiv rd rs1 b)
  else if k = 0b010000#6 then .instr (.addcc rd rs1 b)
  else if k = 0b010001#6 then .instr (.andcc rd rs1 b)
  else if k = 0b010010#6 then .instr (.orcc rd rs1 b)
  else if k = 0b010011#6 then .instr (.xorcc rd rs1 b)
  else if k = 0b010100#6 then .instr (.subcc rd rs1 b)
  else if k = 0b010101#6 then .instr (.andncc rd rs1 b)
  else if k = 0b010110#6 then .instr (.orncc rd rs1 b)
  else if k = 0b010111#6 then .instr (.xnorcc rd rs1 b)
  else if k = 0b011000#6 then .instr (.addxcc rd rs1 b)
  else if k = 0b011010#6 then .instr (.umulcc rd rs1 b)
  else if k = 0b011011#6 then .instr (.smulcc rd rs1 b)
  else if k = 0b011100#6 then .instr (.subxcc rd rs1 b)
  else if k = 0b011110#6 then .instr (.udivcc rd rs1 b)
  else if k = 0b011111#6 then .instr (.sdivcc rd rs1 b)
  else if k = 0b100000#6 then .instr (.taddcc rd rs1 b)
  else if k = 0b100001#6 then .instr (.tsubcc rd rs1 b)
  else if k = 0b100010#6 then .instr (.taddcctv rd rs1 b)
  else if k = 0b100011#6 then .instr (.tsubcctv rd rs1 b)
  else if k = 0b100100#6 then .instr (.mulscc rd rs1 b)
  else if k = 0b100101#6 then .instr (.sll rd rs1 (decodeShiftCount w))
  else if k = 0b100110#6 then .instr (.srl rd rs1 (decodeShiftCount w))
  else if k = 0b100111#6 then .instr (.sra rd rs1 (decodeShiftCount w))
  else if k = 0b101000#6 then .instr (if rs1 = 0#5 then .rdy rd else .rdasr rd rs1)
  else if k = 0b101001#6 then .instr (.rdpsr rd)
  else if k = 0b101010#6 then .instr (.rdwim rd)
  else if k = 0b101011#6 then .instr (.rdtbr rd)
  else if k = 0b110000#6 then .instr (if rd = 0#5 then .wry rs1 b else .wrasr rd rs1 b)
  else if k = 0b110001#6 then .instr (.wrpsr rs1 b)
  else if k = 0b110010#6 then .instr (.wrwim rs1 b)
  else if k = 0b110011#6 then .instr (.wrtbr rs1 b)
  else if k = 0b110100#6 then decodeFpop1 w
  else if k = 0b110101#6 then decodeFpop2 w
  else if k = 0b110110#6 then .instr (.cpop1 rd rs1 (fieldOpf w) (fieldRs2 w))
  else if k = 0b110111#6 then .instr (.cpop2 rd rs1 (fieldOpf w) (fieldRs2 w))
  else if k = 0b111000#6 then .instr (.jmpl rd rs1 b)
  else if k = 0b111001#6 then .instr (.rett rs1 b)
  else if k = 0b111010#6 then .instr (decodeTicc w)
  else if k = 0b111011#6 then .instr (.flush rs1 b)
  else if k = 0b111100#6 then .instr (.save rd rs1 b)
  else if k = 0b111101#6 then .instr (.restore rd rs1 b)
  else .unassigned

/-- `op = 11`, by op3 (R130). -/
def decodeMemory (w : Word) : Decoded :=
  let rd := fieldRd w
  let rs1 := fieldRs1 w
  let b := decodeRegImm w
  let k := fieldOp3 w
  if k = 0b000000#6 then .instr (.ld rd rs1 b)
  else if k = 0b000001#6 then .instr (.ldub rd rs1 b)
  else if k = 0b000010#6 then .instr (.lduh rd rs1 b)
  else if k = 0b000011#6 then .instr (.ldd rd rs1 b)
  else if k = 0b000100#6 then .instr (.st rd rs1 b)
  else if k = 0b000101#6 then .instr (.stb rd rs1 b)
  else if k = 0b000110#6 then .instr (.sth rd rs1 b)
  else if k = 0b000111#6 then .instr (.std rd rs1 b)
  else if k = 0b001001#6 then .instr (.ldsb rd rs1 b)
  else if k = 0b001010#6 then .instr (.ldsh rd rs1 b)
  else if k = 0b001101#6 then .instr (.ldstub rd rs1 b)
  else if k = 0b001111#6 then .instr (.swap rd rs1 b)
  else if k = 0b010000#6 then .instr (.lda rd rs1 (decodeAltAddr w))
  else if k = 0b010001#6 then .instr (.lduba rd rs1 (decodeAltAddr w))
  else if k = 0b010010#6 then .instr (.lduha rd rs1 (decodeAltAddr w))
  else if k = 0b010011#6 then .instr (.ldda rd rs1 (decodeAltAddr w))
  else if k = 0b010100#6 then .instr (.sta rd rs1 (decodeAltAddr w))
  else if k = 0b010101#6 then .instr (.stba rd rs1 (decodeAltAddr w))
  else if k = 0b010110#6 then .instr (.stha rd rs1 (decodeAltAddr w))
  else if k = 0b010111#6 then .instr (.stda rd rs1 (decodeAltAddr w))
  else if k = 0b011001#6 then .instr (.ldsba rd rs1 (decodeAltAddr w))
  else if k = 0b011010#6 then .instr (.ldsha rd rs1 (decodeAltAddr w))
  else if k = 0b011101#6 then .instr (.ldstuba rd rs1 (decodeAltAddr w))
  else if k = 0b011111#6 then .instr (.swapa rd rs1 (decodeAltAddr w))
  else if k = 0b100000#6 then .instr (.ldf rd rs1 b)
  else if k = 0b100001#6 then .instr (.ldfsr rs1 b)
  else if k = 0b100011#6 then .instr (.lddf rd rs1 b)
  else if k = 0b100100#6 then .instr (.stf rd rs1 b)
  else if k = 0b100101#6 then .instr (.stfsr rs1 b)
  else if k = 0b100110#6 then .instr (.stdfq rs1 b)
  else if k = 0b100111#6 then .instr (.stdf rd rs1 b)
  else if k = 0b110000#6 then .instr (.ldc rd rs1 b)
  else if k = 0b110001#6 then .instr (.ldcsr rs1 b)
  else if k = 0b110011#6 then .instr (.lddc rd rs1 b)
  else if k = 0b110100#6 then .instr (.stc rd rs1 b)
  else if k = 0b110101#6 then .instr (.stcsr rs1 b)
  else if k = 0b110110#6 then .instr (.stdcq rs1 b)
  else if k = 0b110111#6 then .instr (.stdc rd rs1 b)
  else .unassigned

/-- The decoder: every 32-bit word, by op (R127). Ignored bits are not tested (R134, D20). -/
def decode (w : Word) : Decoded :=
  match fieldOp w with
  | 0#2 => decodeFormat2 w
  | 1#2 => .instr (.call (fieldDisp30 w))
  | 2#2 => decodeArith w
  | 3#2 => decodeMemory w

/-- The word whose four bytes, lowest address first, are given: big-endian (R84, R120). -/
def wordOfBytes (b0 b1 b2 b3 : Byte) : Word := b0 ++ b1 ++ b2 ++ b3

/-- The four bytes of a word, lowest address first (R84). -/
def bytesOfWord (w : Word) : List Byte :=
  [w.extractLsb' 24 8, w.extractLsb' 16 8, w.extractLsb' 8 8, w.extractLsb' 0 8]

/-- The decoder on bytes, lowest address first: none when fewer than the four bytes of an instruction are there. -/
def decodeBytes : List Byte → Option Decoded
  | b0 :: b1 :: b2 :: b3 :: _ => some (decode (wordOfBytes b0 b1 b2 b3))
  | _ => none

/-- The word that the opcode table's number `w` of `nbits` bits stands for (bit 0 is bit 0 of the one word). -/
def tableWord (nbits w : Nat) : Word := BitVec.ofNat 32 (w % 2 ^ nbits)

/-- The instruction the decoder reads from an instruction of the opcode table. -/
def decodeTableWord (nbits w : Nat) : Option Instr :=
  match decodeBytes (bytesOfWord (tableWord nbits w)) with
  | some (.instr i) => some i
  | _ => none

/-! ### The encoder -/

/-- Format 1 (R121). -/
def encodeFormat1 (disp30 : BitVec 30) : Word := 0b01#2 ++ disp30

/-- Format 2, SETHI and UNIMP (R122). -/
def encodeFormat2 (rd : RegNum) (op2 : BitVec 3) (imm22 : BitVec 22) : Word := 0b00#2 ++ rd ++ op2 ++ imm22

/-- Format 2, branches (R122). -/
def encodeBranch (a : Bool) (cond : BitVec 4) (op2 : BitVec 3) (disp22 : BitVec 22) : Word :=
  0b00#2 ++ BitVec.ofBool a ++ cond ++ op2 ++ disp22

/-- Format 3 (R123), the low fourteen bits given whole. -/
def encodeFormat3 (op : BitVec 2) (rd : RegNum) (op3 : BitVec 6) (rs1 : RegNum) (low : BitVec 14) : Word :=
  op ++ rd ++ op3 ++ rs1 ++ low

/-- Bits 13:0 of an ordinary format-3 instruction; an assembler writes zeros in ignored bits (R134). -/
def regImmBits : RegImm → BitVec 14
  | .reg rs2 => 0#1 ++ 0#8 ++ rs2
  | .imm simm13 => 1#1 ++ simm13

/-- Bits 13:0 of a shift (R123). -/
def shiftBits : ShiftCount → BitVec 14
  | .reg rs2 => 0#1 ++ 0#8 ++ rs2
  | .imm shcnt => 1#1 ++ 0#8 ++ shcnt

/-- Bits 13:0 of an alternate-space instruction (R123). -/
def altBits : AltAddr → BitVec 14
  | .reg rs2 asi => 0#1 ++ asi ++ rs2
  | .imm simm13 => 1#1 ++ simm13

/-- Bits 13:0 of an FPop or a CPop: the 9-bit function and rs2 (R123). -/
def opfBits (opf : BitVec 9) (rs2 : RegNum) : BitVec 14 := opf ++ rs2

/-- Bits 29:25 of a Ticc: the ignored bit 29 written as zero, and cond (R123). -/
def ticcRd (cond : BitVec 4) : RegNum := 0#1 ++ cond

/-- The encoder: the word of an instruction, by the tables of R121 to R131, with zeros in ignored bits. -/
def encode : Instr → Word
  | .call disp30 => encodeFormat1 disp30
  | .unimp const22 => encodeFormat2 0#5 0b000#3 const22
  | .sethi rd imm22 => encodeFormat2 rd 0b100#3 imm22
  | .bn a disp22 => encodeBranch a 0#4 0b010#3 disp22
  | .be a disp22 => encodeBranch a 1#4 0b010#3 disp22
  | .ble a disp22 => encodeBranch a 2#4 0b010#3 disp22
  | .bl a disp22 => encodeBranch a 3#4 0b010#3 disp22
  | .bleu a disp22 => encodeBranch a 4#4 0b010#3 disp22
  | .bcs a disp22 => encodeBranch a 5#4 0b010#3 disp22
  | .bneg a disp22 => encodeBranch a 6#4 0b010#3 disp22
  | .bvs a disp22 => encodeBranch a 7#4 0b010#3 disp22
  | .ba a disp22 => encodeBranch a 8#4 0b010#3 disp22
  | .bne a disp22 => encodeBranch a 9#4 0b010#3 disp22
  | .bg a disp22 => encodeBranch a 10#4 0b010#3 disp22
  | .bge a disp22 => encodeBranch a 11#4 0b010#3 disp22
  | .bgu a disp22 => encodeBranch a 12#4 0b010#3 disp22
  | .bcc a disp22 => encodeBranch a 13#4 0b010#3 disp22
  | .bpos a disp22 => encodeBranch a 14#4 0b010#3 disp22
  | .bvc a disp22 => encodeBranch a 15#4 0b010#3 disp22
  | .fbn a disp22 => encodeBranch a 0#4 0b110#3 disp22
  | .fbne a disp22 => encodeBranch a 1#4 0b110#3 disp22
  | .fblg a disp22 => encodeBranch a 2#4 0b110#3 disp22
  | .fbul a disp22 => encodeBranch a 3#4 0b110#3 disp22
  | .fbl a disp22 => encodeBranch a 4#4 0b110#3 disp22
  | .fbug a disp22 => encodeBranch a 5#4 0b110#3 disp22
  | .fbg a disp22 => encodeBranch a 6#4 0b110#3 disp22
  | .fbu a disp22 => encodeBranch a 7#4 0b110#3 disp22
  | .fba a disp22 => encodeBranch a 8#4 0b110#3 disp22
  | .fbe a disp22 => encodeBranch a 9#4 0b110#3 disp22
  | .fbue a disp22 => encodeBranch a 10#4 0b110#3 disp22
  | .fbge a disp22 => encodeBranch a 11#4 0b110#3 disp22
  | .fbuge a disp22 => encodeBranch a 12#4 0b110#3 disp22
  | .fble a disp22 => encodeBranch a 13#4 0b110#3 disp22
  | .fbule a disp22 => encodeBranch a 14#4 0b110#3 disp22
  | .fbo a disp22 => encodeBranch a 15#4 0b110#3 disp22
  | .cbn a disp22 => encodeBranch a 0#4 0b111#3 disp22
  | .cb123 a disp22 => encodeBranch a 1#4 0b111#3 disp22
  | .cb12 a disp22 => encodeBranch a 2#4 0b111#3 disp22
  | .cb13 a disp22 => encodeBranch a 3#4 0b111#3 disp22
  | .cb1 a disp22 => encodeBranch a 4#4 0b111#3 disp22
  | .cb23 a disp22 => encodeBranch a 5#4 0b111#3 disp22
  | .cb2 a disp22 => encodeBranch a 6#4 0b111#3 disp22
  | .cb3 a disp22 => encodeBranch a 7#4 0b111#3 disp22
  | .cba a disp22 => encodeBranch a 8#4 0b111#3 disp22
  | .cb0 a disp22 => encodeBranch a 9#4 0b111#3 disp22
  | .cb03 a disp22 => encodeBranch a 10#4 0b111#3 disp22
  | .cb02 a disp22 => encodeBranch a 11#4 0b111#3 disp22
  | .cb023 a disp22 => encodeBranch a 12#4 0b111#3 disp22
  | .cb01 a disp22 => encodeBranch a 13#4 0b111#3 disp22
  | .cb013 a disp22 => encodeBranch a 14#4 0b111#3 disp22
  | .cb012 a disp22 => encodeBranch a 15#4 0b111#3 disp22
  | .add rd rs1 op2 => encodeFormat3 0b10#2 rd 0b000000#6 rs1 (regImmBits op2)
  | .and rd rs1 op2 => encodeFormat3 0b10#2 rd 0b000001#6 rs1 (regImmBits op2)
  | .or rd rs1 op2 => encodeFormat3 0b10#2 rd 0b000010#6 rs1 (regImmBits op2)
  | .xor rd rs1 op2 => encodeFormat3 0b10#2 rd 0b000011#6 rs1 (regImmBits op2)
  | .sub rd rs1 op2 => encodeFormat3 0b10#2 rd 0b000100#6 rs1 (regImmBits op2)
  | .andn rd rs1 op2 => encodeFormat3 0b10#2 rd 0b000101#6 rs1 (regImmBits op2)
  | .orn rd rs1 op2 => encodeFormat3 0b10#2 rd 0b000110#6 rs1 (regImmBits op2)
  | .xnor rd rs1 op2 => encodeFormat3 0b10#2 rd 0b000111#6 rs1 (regImmBits op2)
  | .addx rd rs1 op2 => encodeFormat3 0b10#2 rd 0b001000#6 rs1 (regImmBits op2)
  | .umul rd rs1 op2 => encodeFormat3 0b10#2 rd 0b001010#6 rs1 (regImmBits op2)
  | .smul rd rs1 op2 => encodeFormat3 0b10#2 rd 0b001011#6 rs1 (regImmBits op2)
  | .subx rd rs1 op2 => encodeFormat3 0b10#2 rd 0b001100#6 rs1 (regImmBits op2)
  | .udiv rd rs1 op2 => encodeFormat3 0b10#2 rd 0b001110#6 rs1 (regImmBits op2)
  | .sdiv rd rs1 op2 => encodeFormat3 0b10#2 rd 0b001111#6 rs1 (regImmBits op2)
  | .addcc rd rs1 op2 => encodeFormat3 0b10#2 rd 0b010000#6 rs1 (regImmBits op2)
  | .andcc rd rs1 op2 => encodeFormat3 0b10#2 rd 0b010001#6 rs1 (regImmBits op2)
  | .orcc rd rs1 op2 => encodeFormat3 0b10#2 rd 0b010010#6 rs1 (regImmBits op2)
  | .xorcc rd rs1 op2 => encodeFormat3 0b10#2 rd 0b010011#6 rs1 (regImmBits op2)
  | .subcc rd rs1 op2 => encodeFormat3 0b10#2 rd 0b010100#6 rs1 (regImmBits op2)
  | .andncc rd rs1 op2 => encodeFormat3 0b10#2 rd 0b010101#6 rs1 (regImmBits op2)
  | .orncc rd rs1 op2 => encodeFormat3 0b10#2 rd 0b010110#6 rs1 (regImmBits op2)
  | .xnorcc rd rs1 op2 => encodeFormat3 0b10#2 rd 0b010111#6 rs1 (regImmBits op2)
  | .addxcc rd rs1 op2 => encodeFormat3 0b10#2 rd 0b011000#6 rs1 (regImmBits op2)
  | .umulcc rd rs1 op2 => encodeFormat3 0b10#2 rd 0b011010#6 rs1 (regImmBits op2)
  | .smulcc rd rs1 op2 => encodeFormat3 0b10#2 rd 0b011011#6 rs1 (regImmBits op2)
  | .subxcc rd rs1 op2 => encodeFormat3 0b10#2 rd 0b011100#6 rs1 (regImmBits op2)
  | .udivcc rd rs1 op2 => encodeFormat3 0b10#2 rd 0b011110#6 rs1 (regImmBits op2)
  | .sdivcc rd rs1 op2 => encodeFormat3 0b10#2 rd 0b011111#6 rs1 (regImmBits op2)
  | .taddcc rd rs1 op2 => encodeFormat3 0b10#2 rd 0b100000#6 rs1 (regImmBits op2)
  | .tsubcc rd rs1 op2 => encodeFormat3 0b10#2 rd 0b100001#6 rs1 (regImmBits op2)
  | .taddcctv rd rs1 op2 => encodeFormat3 0b10#2 rd 0b100010#6 rs1 (regImmBits op2)
  | .tsubcctv rd rs1 op2 => encodeFormat3 0b10#2 rd 0b100011#6 rs1 (regImmBits op2)
  | .mulscc rd rs1 op2 => encodeFormat3 0b10#2 rd 0b100100#6 rs1 (regImmBits op2)
  | .sll rd rs1 count => encodeFormat3 0b10#2 rd 0b100101#6 rs1 (shiftBits count)
  | .srl rd rs1 count => encodeFormat3 0b10#2 rd 0b100110#6 rs1 (shiftBits count)
  | .sra rd rs1 count => encodeFormat3 0b10#2 rd 0b100111#6 rs1 (shiftBits count)
  | .rdy rd => encodeFormat3 0b10#2 rd 0b101000#6 0#5 0#14
  | .rdasr rd rs1 => encodeFormat3 0b10#2 rd 0b101000#6 rs1 0#14
  | .rdpsr rd => encodeFormat3 0b10#2 rd 0b101001#6 0#5 0#14
  | .rdwim rd => encodeFormat3 0b10#2 rd 0b101010#6 0#5 0#14
  | .rdtbr rd => encodeFormat3 0b10#2 rd 0b101011#6 0#5 0#14
  | .wry rs1 op2 => encodeFormat3 0b10#2 0#5 0b110000#6 rs1 (regImmBits op2)
  | .wrasr rd rs1 op2 => encodeFormat3 0b10#2 rd 0b110000#6 rs1 (regImmBits op2)
  | .wrpsr rs1 op2 => encodeFormat3 0b10#2 0#5 0b110001#6 rs1 (regImmBits op2)
  | .wrwim rs1 op2 => encodeFormat3 0b10#2 0#5 0b110010#6 rs1 (regImmBits op2)
  | .wrtbr rs1 op2 => encodeFormat3 0b10#2 0#5 0b110011#6 rs1 (regImmBits op2)
  | .fmovs rd rs1 rs2 => encodeFormat3 0b10#2 rd 0b110100#6 rs1 (opfBits 0x001#9 rs2)
  | .fnegs rd rs1 rs2 => encodeFormat3 0b10#2 rd 0b110100#6 rs1 (opfBits 0x005#9 rs2)
  | .fabss rd rs1 rs2 => encodeFormat3 0b10#2 rd 0b110100#6 rs1 (opfBits 0x009#9 rs2)
  | .fsqrts rd rs1 rs2 => encodeFormat3 0b10#2 rd 0b110100#6 rs1 (opfBits 0x029#9 rs2)
  | .fsqrtd rd rs1 rs2 => encodeFormat3 0b10#2 rd 0b110100#6 rs1 (opfBits 0x02a#9 rs2)
  | .fsqrtq rd rs1 rs2 => encodeFormat3 0b10#2 rd 0b110100#6 rs1 (opfBits 0x02b#9 rs2)
  | .fadds rd rs1 rs2 => encodeFormat3 0b10#2 rd 0b110100#6 rs1 (opfBits 0x041#9 rs2)
  | .faddd rd rs1 rs2 => encodeFormat3 0b10#2 rd 0b110100#6 rs1 (opfBits 0x042#9 rs2)
  | .faddq rd rs1 rs2 => encodeFormat3 0b10#2 rd 0b110100#6 rs1 (opfBits 0x043#9 rs2)
  | .fsubs rd rs1 rs2 => encodeFormat3 0b10#2 rd 0b110100#6 rs1 (opfBits 0x045#9 rs2)
  | .fsubd rd rs1 rs2 => encodeFormat3 0b10#2 rd 0b110100#6 rs1 (opfBits 0x046#9 rs2)
  | .fsubq rd rs1 rs2 => encodeFormat3 0b10#2 rd 0b110100#6 rs1 (opfBits 0x047#9 rs2)
  | .fmuls rd rs1 rs2 => encodeFormat3 0b10#2 rd 0b110100#6 rs1 (opfBits 0x049#9 rs2)
  | .fmuld rd rs1 rs2 => encodeFormat3 0b10#2 rd 0b110100#6 rs1 (opfBits 0x04a#9 rs2)
  | .fmulq rd rs1 rs2 => encodeFormat3 0b10#2 rd 0b110100#6 rs1 (opfBits 0x04b#9 rs2)
  | .fdivs rd rs1 rs2 => encodeFormat3 0b10#2 rd 0b110100#6 rs1 (opfBits 0x04d#9 rs2)
  | .fdivd rd rs1 rs2 => encodeFormat3 0b10#2 rd 0b110100#6 rs1 (opfBits 0x04e#9 rs2)
  | .fdivq rd rs1 rs2 => encodeFormat3 0b10#2 rd 0b110100#6 rs1 (opfBits 0x04f#9 rs2)
  | .fsmuld rd rs1 rs2 => encodeFormat3 0b10#2 rd 0b110100#6 rs1 (opfBits 0x069#9 rs2)
  | .fdmulq rd rs1 rs2 => encodeFormat3 0b10#2 rd 0b110100#6 rs1 (opfBits 0x06e#9 rs2)
  | .fitos rd rs1 rs2 => encodeFormat3 0b10#2 rd 0b110100#6 rs1 (opfBits 0x0c4#9 rs2)
  | .fitod rd rs1 rs2 => encodeFormat3 0b10#2 rd 0b110100#6 rs1 (opfBits 0x0c8#9 rs2)
  | .fitoq rd rs1 rs2 => encodeFormat3 0b10#2 rd 0b110100#6 rs1 (opfBits 0x0cc#9 rs2)
  | .fstoi rd rs1 rs2 => encodeFormat3 0b10#2 rd 0b110100#6 rs1 (opfBits 0x0d1#9 rs2)
  | .fdtoi rd rs1 rs2 => encodeFormat3 0b10#2 rd 0b110100#6 rs1 (opfBits 0x0d2#9 rs2)
  | .fqtoi rd rs1 rs2 => encodeFormat3 0b10#2 rd 0b110100#6 rs1 (opfBits 0x0d3#9 rs2)
  | .fstod rd rs1 rs2 => encodeFormat3 0b10#2 rd 0b110100#6 rs1 (opfBits 0x0c9#9 rs2)
  | .fstoq rd rs1 rs2 => encodeFormat3 0b10#2 rd 0b110100#6 rs1 (opfBits 0x0cd#9 rs2)
  | .fdtos rd rs1 rs2 => encodeFormat3 0b10#2 rd 0b110100#6 rs1 (opfBits 0x0c6#9 rs2)
  | .fdtoq rd rs1 rs2 => encodeFormat3 0b10#2 rd 0b110100#6 rs1 (opfBits 0x0ce#9 rs2)
  | .fqtos rd rs1 rs2 => encodeFormat3 0b10#2 rd 0b110100#6 rs1 (opfBits 0x0c7#9 rs2)
  | .fqtod rd rs1 rs2 => encodeFormat3 0b10#2 rd 0b110100#6 rs1 (opfBits 0x0cb#9 rs2)
  | .fcmps rd rs1 rs2 => encodeFormat3 0b10#2 rd 0b110101#6 rs1 (opfBits 0x051#9 rs2)
  | .fcmpd rd rs1 rs2 => encodeFormat3 0b10#2 rd 0b110101#6 rs1 (opfBits 0x052#9 rs2)
  | .fcmpq rd rs1 rs2 => encodeFormat3 0b10#2 rd 0b110101#6 rs1 (opfBits 0x053#9 rs2)
  | .fcmpes rd rs1 rs2 => encodeFormat3 0b10#2 rd 0b110101#6 rs1 (opfBits 0x055#9 rs2)
  | .fcmped rd rs1 rs2 => encodeFormat3 0b10#2 rd 0b110101#6 rs1 (opfBits 0x056#9 rs2)
  | .fcmpeq rd rs1 rs2 => encodeFormat3 0b10#2 rd 0b110101#6 rs1 (opfBits 0x057#9 rs2)
  | .cpop1 rd rs1 opc rs2 => encodeFormat3 0b10#2 rd 0b110110#6 rs1 (opfBits opc rs2)
  | .cpop2 rd rs1 opc rs2 => encodeFormat3 0b10#2 rd 0b110111#6 rs1 (opfBits opc rs2)
  | .jmpl rd rs1 op2 => encodeFormat3 0b10#2 rd 0b111000#6 rs1 (regImmBits op2)
  | .rett rs1 op2 => encodeFormat3 0b10#2 0#5 0b111001#6 rs1 (regImmBits op2)
  | .tn rs1 op2 => encodeFormat3 0b10#2 (ticcRd 0#4) 0b111010#6 rs1 (regImmBits op2)
  | .te rs1 op2 => encodeFormat3 0b10#2 (ticcRd 1#4) 0b111010#6 rs1 (regImmBits op2)
  | .tle rs1 op2 => encodeFormat3 0b10#2 (ticcRd 2#4) 0b111010#6 rs1 (regImmBits op2)
  | .tl rs1 op2 => encodeFormat3 0b10#2 (ticcRd 3#4) 0b111010#6 rs1 (regImmBits op2)
  | .tleu rs1 op2 => encodeFormat3 0b10#2 (ticcRd 4#4) 0b111010#6 rs1 (regImmBits op2)
  | .tcs rs1 op2 => encodeFormat3 0b10#2 (ticcRd 5#4) 0b111010#6 rs1 (regImmBits op2)
  | .tneg rs1 op2 => encodeFormat3 0b10#2 (ticcRd 6#4) 0b111010#6 rs1 (regImmBits op2)
  | .tvs rs1 op2 => encodeFormat3 0b10#2 (ticcRd 7#4) 0b111010#6 rs1 (regImmBits op2)
  | .ta rs1 op2 => encodeFormat3 0b10#2 (ticcRd 8#4) 0b111010#6 rs1 (regImmBits op2)
  | .tne rs1 op2 => encodeFormat3 0b10#2 (ticcRd 9#4) 0b111010#6 rs1 (regImmBits op2)
  | .tg rs1 op2 => encodeFormat3 0b10#2 (ticcRd 10#4) 0b111010#6 rs1 (regImmBits op2)
  | .tge rs1 op2 => encodeFormat3 0b10#2 (ticcRd 11#4) 0b111010#6 rs1 (regImmBits op2)
  | .tgu rs1 op2 => encodeFormat3 0b10#2 (ticcRd 12#4) 0b111010#6 rs1 (regImmBits op2)
  | .tcc rs1 op2 => encodeFormat3 0b10#2 (ticcRd 13#4) 0b111010#6 rs1 (regImmBits op2)
  | .tpos rs1 op2 => encodeFormat3 0b10#2 (ticcRd 14#4) 0b111010#6 rs1 (regImmBits op2)
  | .tvc rs1 op2 => encodeFormat3 0b10#2 (ticcRd 15#4) 0b111010#6 rs1 (regImmBits op2)
  | .flush rs1 op2 => encodeFormat3 0b10#2 0#5 0b111011#6 rs1 (regImmBits op2)
  | .save rd rs1 op2 => encodeFormat3 0b10#2 rd 0b111100#6 rs1 (regImmBits op2)
  | .restore rd rs1 op2 => encodeFormat3 0b10#2 rd 0b111101#6 rs1 (regImmBits op2)
  | .ld rd rs1 op2 => encodeFormat3 0b11#2 rd 0b000000#6 rs1 (regImmBits op2)
  | .ldub rd rs1 op2 => encodeFormat3 0b11#2 rd 0b000001#6 rs1 (regImmBits op2)
  | .lduh rd rs1 op2 => encodeFormat3 0b11#2 rd 0b000010#6 rs1 (regImmBits op2)
  | .ldd rd rs1 op2 => encodeFormat3 0b11#2 rd 0b000011#6 rs1 (regImmBits op2)
  | .st rd rs1 op2 => encodeFormat3 0b11#2 rd 0b000100#6 rs1 (regImmBits op2)
  | .stb rd rs1 op2 => encodeFormat3 0b11#2 rd 0b000101#6 rs1 (regImmBits op2)
  | .sth rd rs1 op2 => encodeFormat3 0b11#2 rd 0b000110#6 rs1 (regImmBits op2)
  | .std rd rs1 op2 => encodeFormat3 0b11#2 rd 0b000111#6 rs1 (regImmBits op2)
  | .ldsb rd rs1 op2 => encodeFormat3 0b11#2 rd 0b001001#6 rs1 (regImmBits op2)
  | .ldsh rd rs1 op2 => encodeFormat3 0b11#2 rd 0b001010#6 rs1 (regImmBits op2)
  | .ldstub rd rs1 op2 => encodeFormat3 0b11#2 rd 0b001101#6 rs1 (regImmBits op2)
  | .swap rd rs1 op2 => encodeFormat3 0b11#2 rd 0b001111#6 rs1 (regImmBits op2)
  | .ldf rd rs1 op2 => encodeFormat3 0b11#2 rd 0b100000#6 rs1 (regImmBits op2)
  | .ldfsr rs1 op2 => encodeFormat3 0b11#2 0#5 0b100001#6 rs1 (regImmBits op2)
  | .lddf rd rs1 op2 => encodeFormat3 0b11#2 rd 0b100011#6 rs1 (regImmBits op2)
  | .stf rd rs1 op2 => encodeFormat3 0b11#2 rd 0b100100#6 rs1 (regImmBits op2)
  | .stfsr rs1 op2 => encodeFormat3 0b11#2 0#5 0b100101#6 rs1 (regImmBits op2)
  | .stdfq rs1 op2 => encodeFormat3 0b11#2 0#5 0b100110#6 rs1 (regImmBits op2)
  | .stdf rd rs1 op2 => encodeFormat3 0b11#2 rd 0b100111#6 rs1 (regImmBits op2)
  | .ldc rd rs1 op2 => encodeFormat3 0b11#2 rd 0b110000#6 rs1 (regImmBits op2)
  | .ldcsr rs1 op2 => encodeFormat3 0b11#2 0#5 0b110001#6 rs1 (regImmBits op2)
  | .lddc rd rs1 op2 => encodeFormat3 0b11#2 rd 0b110011#6 rs1 (regImmBits op2)
  | .stc rd rs1 op2 => encodeFormat3 0b11#2 rd 0b110100#6 rs1 (regImmBits op2)
  | .stcsr rs1 op2 => encodeFormat3 0b11#2 0#5 0b110101#6 rs1 (regImmBits op2)
  | .stdcq rs1 op2 => encodeFormat3 0b11#2 0#5 0b110110#6 rs1 (regImmBits op2)
  | .stdc rd rs1 op2 => encodeFormat3 0b11#2 rd 0b110111#6 rs1 (regImmBits op2)
  | .lda rd rs1 addr => encodeFormat3 0b11#2 rd 0b010000#6 rs1 (altBits addr)
  | .lduba rd rs1 addr => encodeFormat3 0b11#2 rd 0b010001#6 rs1 (altBits addr)
  | .lduha rd rs1 addr => encodeFormat3 0b11#2 rd 0b010010#6 rs1 (altBits addr)
  | .ldda rd rs1 addr => encodeFormat3 0b11#2 rd 0b010011#6 rs1 (altBits addr)
  | .sta rd rs1 addr => encodeFormat3 0b11#2 rd 0b010100#6 rs1 (altBits addr)
  | .stba rd rs1 addr => encodeFormat3 0b11#2 rd 0b010101#6 rs1 (altBits addr)
  | .stha rd rs1 addr => encodeFormat3 0b11#2 rd 0b010110#6 rs1 (altBits addr)
  | .stda rd rs1 addr => encodeFormat3 0b11#2 rd 0b010111#6 rs1 (altBits addr)
  | .ldsba rd rs1 addr => encodeFormat3 0b11#2 rd 0b011001#6 rs1 (altBits addr)
  | .ldsha rd rs1 addr => encodeFormat3 0b11#2 rd 0b011010#6 rs1 (altBits addr)
  | .ldstuba rd rs1 addr => encodeFormat3 0b11#2 rd 0b011101#6 rs1 (altBits addr)
  | .swapa rd rs1 addr => encodeFormat3 0b11#2 rd 0b011111#6 rs1 (altBits addr)

end Sys2Proof
end

