-- ==== Sys2Proof/Machine/Float.lean ====
section
/-! DEFINITION. The arithmetic of the floating-point operate instructions: IEEE 754-1985 with the choices of
47_fpop_cpop_misc.md R414 (log 14). Operands and results are bit patterns, read as exact numbers, operated on without
loss, and rounded once. -/

namespace Sys2Proof.Machine

/-- A binary format of R414: the widths of its exponent and fraction fields. -/
structure FpFormat where
  expBits : Nat
  fracBits : Nat
deriving DecidableEq, Repr

def fpSingle : FpFormat := { expBits := 8, fracBits := 23 }
def fpDouble : FpFormat := { expBits := 11, fracBits := 52 }
def fpQuad : FpFormat := { expBits := 15, fracBits := 112 }

/-- The exponent bias (R414). -/
def FpFormat.bias (fmt : FpFormat) : Nat := 2 ^ (fmt.expBits - 1) - 1

/-- The exponent field of infinities and NaNs. -/
def FpFormat.maxExp (fmt : FpFormat) : Nat := 2 ^ fmt.expBits - 1

/-- What a bit pattern stands for (R414). A number is `mant * 2^exp` with its sign, mant not 0; a NaN keeps its
fraction field. -/
inductive FpValue where
  | nan (sign : Bool) (signalling : Bool) (frac : Nat)
  | infinite (sign : Bool)
  | zero (sign : Bool)
  | number (sign : Bool) (mant : Nat) (exp : Int)
deriving DecidableEq, Repr

/-- The bit pattern of a sign, an exponent field and a fraction field. -/
def FpFormat.pack (fmt : FpFormat) (sign : Bool) (exp frac : Nat) : Nat :=
  (if sign then 2 ^ (fmt.expBits + fmt.fracBits) else 0) + exp * 2 ^ fmt.fracBits + frac

/-- Reading a bit pattern (R414). -/
def FpFormat.read (fmt : FpFormat) (bits : Nat) : FpValue :=
  let sign := decide (bits / 2 ^ (fmt.expBits + fmt.fracBits) % 2 = 1)
  let exp := bits / 2 ^ fmt.fracBits % 2 ^ fmt.expBits
  let frac := bits % 2 ^ fmt.fracBits
  if exp = fmt.maxExp then
    if frac = 0 then .infinite sign else .nan sign (decide (frac < 2 ^ (fmt.fracBits - 1))) frac
  else if exp = 0 then
    if frac = 0 then .zero sign else .number sign frac (1 - (fmt.bias : Int) - fmt.fracBits)
  else .number sign (2 ^ fmt.fracBits + frac) ((exp : Int) - fmt.bias - fmt.fracBits)

/-- The exceptions an operation signals (R414), as the bits of cexc (R56). -/
structure FpExceptions where
  nv : Bool
  of : Bool
  uf : Bool
  dz : Bool
  nx : Bool
deriving DecidableEq, Repr

def FpExceptions.none : FpExceptions := { nv := false, of := false, uf := false, dz := false, nx := false }
def FpExceptions.invalid : FpExceptions := { FpExceptions.none with nv := true }
def FpExceptions.divideByZero : FpExceptions := { FpExceptions.none with dz := true }

/-- In the bit order of cexc: nv, of, uf, dz, nx (R56). -/
def FpExceptions.bits (e : FpExceptions) : BitVec 5 :=
  BitVec.ofBool e.nv ++ BitVec.ofBool e.of ++ BitVec.ofBool e.uf ++ BitVec.ofBool e.dz ++ BitVec.ofBool e.nx

/-- What an operation answers: a bit pattern and the exceptions it signals. -/
structure FpResult where
  bits : Nat
  exc : FpExceptions
deriving DecidableEq, Repr

/-- What decides a rounding: FSR.RD and the underflow mask UFM (R414(b)). -/
structure FpControl where
  rounding : BitVec 2
  underflowTrap : Bool
deriving DecidableEq, Repr

/-! ### Rounding -/

/-- Whether to round a magnitude up: `rest` out of `2 * half` is cut off below `kept` (R414). -/
def roundsUp (rounding : BitVec 2) (sign : Bool) (kept rest half : Nat) : Bool :=
  if rounding = 0#2 then decide (half < rest) || (decide (rest = half) && decide (kept % 2 = 1))
  else if rounding = 1#2 then false
  else if rounding = 2#2 then decide (rest ≠ 0) && !sign
  else decide (rest ≠ 0) && sign

/-- Overflow: infinity or the largest finite number, by the direction (R414(f)). -/
def overflowBits (fmt : FpFormat) (rounding : BitVec 2) (sign : Bool) : Nat :=
  let toInfinity := rounding = 0#2 ∨ (rounding = 2#2 ∧ sign = false) ∨ (rounding = 3#2 ∧ sign = true)
  if toInfinity then fmt.pack sign fmt.maxExp 0 else fmt.pack sign (fmt.maxExp - 1) (2 ^ fmt.fracBits - 1)

/-- The correctly rounded `mant * 2^exp` with its sign, mant not 0, and what the rounding signals (R414): tininess
before rounding, underflow by R414(b). -/
def roundNumber (fmt : FpFormat) (ctl : FpControl) (sign : Bool) (mant : Nat) (exp : Int) : FpResult :=
  let top : Int := exp + Nat.log2 mant
  let minExp : Int := 1 - fmt.bias
  let unit : Int := max (top - fmt.fracBits) (minExp - fmt.fracBits)
  let cut : Nat := (unit - exp).toNat
  let exact : Nat := mant * 2 ^ (exp - unit).toNat
  let kept := exact / 2 ^ cut
  let rest := exact % 2 ^ cut
  let inexact := decide (rest ≠ 0)
  let tiny := decide (top < minExp)
  let rounded := if roundsUp ctl.rounding sign kept (2 * rest) (2 ^ cut) then kept + 1 else kept
  let lift : Nat := (unit - (minExp - fmt.fracBits)).toNat
  let magnitude := lift * 2 ^ fmt.fracBits + rounded
  if fmt.maxExp * 2 ^ fmt.fracBits ≤ magnitude then
    { bits := overflowBits fmt ctl.rounding sign, exc := { FpExceptions.none with of := true, nx := true } }
  else
    { bits := fmt.pack sign 0 magnitude
      exc := { FpExceptions.none with
        nx := inexact
        uf := tiny && (inexact || ctl.underflowTrap) } }

/-! ### NaNs (R414(c), (d), (e)) -/

/-- The NaN of an invalid operation without a NaN operand (R414(c)). -/
def FpFormat.defaultNan (fmt : FpFormat) : Nat := fmt.pack false fmt.maxExp (2 ^ fmt.fracBits - 1)

/-- The fraction of a NaN carried from one format to another, with the quiet bit set (R414(e)). -/
def nanFraction (src dst : FpFormat) (frac : Nat) : Nat :=
  let moved := if src.fracBits ≤ dst.fracBits then frac * 2 ^ (dst.fracBits - src.fracBits)
    else frac / 2 ^ (src.fracBits - dst.fracBits)
  2 ^ (dst.fracBits - 1) + moved % 2 ^ (dst.fracBits - 1)

/-- A NaN operand as the result in format `dst` (R414(d), (e)). -/
def nanResult (src dst : FpFormat) (sign : Bool) (frac : Nat) : Nat :=
  dst.pack sign dst.maxExp (nanFraction src dst frac)

/-- The NaN that two operands give, when there is one: a signalling rs2, then a signalling rs1, then a quiet rs2,
then rs1 (R414(d)). -/
def chosenNan (a b : FpValue) : Option FpValue :=
  match a, b with
  | _, .nan sb true fb => some (.nan sb true fb)
  | .nan sa true fa, _ => some (.nan sa true fa)
  | _, .nan sb false fb => some (.nan sb false fb)
  | .nan sa false fa, _ => some (.nan sa false fa)
  | _, _ => Option.none

/-- An operation on two operands: NaNs by R414(d), the rest by `k`. -/
def withNans (src dst : FpFormat) (a b : FpValue) (k : FpResult) : FpResult :=
  match chosenNan a b with
  | some (.nan sign signalling frac) =>
    { bits := nanResult src dst sign frac, exc := if signalling then .invalid else .none }
  | _ => k

/-- An exact result. -/
def exactResult (bits : Nat) : FpResult := { bits := bits, exc := .none }

/-- An invalid operation (R414(c)). -/
def invalidResult (fmt : FpFormat) : FpResult := { bits := fmt.defaultNan, exc := .invalid }

/-! ### Add and subtract (R426, R429) -/

/-- A number or a zero as a signed multiple of `2^unit`, unit not above its exponent. -/
def FpValue.scaled (unit : Int) : FpValue → Int
  | .number sign mant exp =>
    let m : Int := (mant * 2 ^ (exp - unit).toNat : Nat)
    if sign then -m else m
  | _ => 0

/-- The exponent of a number; `other` for a value that has none. -/
def FpValue.exponentOr (other : Int) : FpValue → Int
  | .number _ _ exp => exp
  | _ => other

/-- A value with its sign flipped. -/
def FpValue.negate : FpValue → FpValue
  | .nan sign signalling frac => .nan sign signalling frac
  | .infinite sign => .infinite (!sign)
  | .zero sign => .zero (!sign)
  | .number sign mant exp => .number (!sign) mant exp

/-- The sum of two finite values (R426): an exact zero is +0, or -0 under RD = 3, but a sum of zeros of one sign keeps
that sign. -/
def addFinite (fmt : FpFormat) (ctl : FpControl) (a b : FpValue) : FpResult :=
  let unit := min (a.exponentOr (b.exponentOr 0)) (b.exponentOr (a.exponentOr 0))
  let sum := a.scaled unit + b.scaled unit
  if sum = 0 then
    let sign := match a, b with
      | .zero sa, .zero sb => if sa = sb then sa else decide (ctl.rounding = 3#2)
      | _, _ => decide (ctl.rounding = 3#2)
    exactResult (fmt.pack sign 0 0)
  else roundNumber fmt ctl (decide (sum < 0)) sum.natAbs unit

/-- The sum of two values that are no NaNs (R426). -/
def addValues (fmt : FpFormat) (ctl : FpControl) (a b : FpValue) : FpResult :=
  match a, b with
  | .infinite sa, .infinite sb => if sa = sb then exactResult (fmt.pack sa fmt.maxExp 0) else invalidResult fmt
  | .infinite sa, _ => exactResult (fmt.pack sa fmt.maxExp 0)
  | _, .infinite sb => exactResult (fmt.pack sb fmt.maxExp 0)
  | _, _ => addFinite fmt ctl a b

/-- FADD (R426). -/
def fpAdd (fmt : FpFormat) (ctl : FpControl) (x y : Nat) : FpResult :=
  let a := fmt.read x
  let b := fmt.read y
  withNans fmt fmt a b (addValues fmt ctl a b)

/-- FSUB (R429). -/
def fpSub (fmt : FpFormat) (ctl : FpControl) (x y : Nat) : FpResult :=
  let a := fmt.read x
  let b := fmt.read y
  withNans fmt fmt a b (addValues fmt ctl a b.negate)

/-! ### Multiply and divide (R432, R435, R438) -/

/-- The product of two values that are no NaNs, in format `dst` (R432, R438). -/
def mulValues (dst : FpFormat) (ctl : FpControl) (a b : FpValue) : FpResult :=
  match a, b with
  | .infinite _, .zero _ => invalidResult dst
  | .zero _, .infinite _ => invalidResult dst
  | .infinite sa, .infinite sb => exactResult (dst.pack (sa ^^ sb) dst.maxExp 0)
  | .infinite sa, .number sb _ _ => exactResult (dst.pack (sa ^^ sb) dst.maxExp 0)
  | .number sa _ _, .infinite sb => exactResult (dst.pack (sa ^^ sb) dst.maxExp 0)
  | .zero sa, .zero sb => exactResult (dst.pack (sa ^^ sb) 0 0)
  | .zero sa, .number sb _ _ => exactResult (dst.pack (sa ^^ sb) 0 0)
  | .number sa _ _, .zero sb => exactResult (dst.pack (sa ^^ sb) 0 0)
  | .number sa ma ea, .number sb mb eb => roundNumber dst ctl (sa ^^ sb) (ma * mb) (ea + eb)
  | _, _ => invalidResult dst

/-- FMUL, and the widening multiplies FsMULd and FdMULq (R432, R438). -/
def fpMul (src dst : FpFormat) (ctl : FpControl) (x y : Nat) : FpResult :=
  let a := src.read x
  let b := src.read y
  withNans src dst a b (mulValues dst ctl a b)

/-- The quotient of two numbers: enough bits of it, the last one standing for whatever is cut off. -/
def divNumbers (fmt : FpFormat) (ctl : FpControl) (sign : Bool) (ma : Nat) (ea : Int) (mb : Nat) (eb : Int) : FpResult :=
  let extra := fmt.fracBits + 3 + (Nat.log2 mb + 1)
  let scaled := ma * 2 ^ extra
  let q := 2 * (scaled / mb) + (if scaled % mb = 0 then 0 else 1)
  roundNumber fmt ctl sign q (ea - eb - extra - 1)

/-- The quotient of two values that are no NaNs (R435). -/
def divValues (fmt : FpFormat) (ctl : FpControl) (a b : FpValue) : FpResult :=
  match a, b with
  | .infinite _, .infinite _ => invalidResult fmt
  | .zero _, .zero _ => invalidResult fmt
  | .infinite sa, .zero sb => exactResult (fmt.pack (sa ^^ sb) fmt.maxExp 0)
  | .infinite sa, .number sb _ _ => exactResult (fmt.pack (sa ^^ sb) fmt.maxExp 0)
  | .number sa _ _, .zero sb => { bits := fmt.pack (sa ^^ sb) fmt.maxExp 0, exc := .divideByZero }
  | .zero sa, .infinite sb => exactResult (fmt.pack (sa ^^ sb) 0 0)
  | .number sa _ _, .infinite sb => exactResult (fmt.pack (sa ^^ sb) 0 0)
  | .zero sa, .number sb _ _ => exactResult (fmt.pack (sa ^^ sb) 0 0)
  | .number sa ma ea, .number sb mb eb => divNumbers fmt ctl (sa ^^ sb) ma ea mb eb
  | _, _ => invalidResult fmt

/-- FDIV (R435). -/
def fpDiv (fmt : FpFormat) (ctl : FpControl) (x y : Nat) : FpResult :=
  let a := fmt.read x
  let b := fmt.read y
  withNans fmt fmt a b (divValues fmt ctl a b)

/-! ### Square root (R423) -/

/-- The integer square root of `n` below `root + 2^bits`, found bit by bit from `root`. -/
def sqrtFrom (n : Nat) : Nat → Nat → Nat
  | 0, root => root
  | bits + 1, root =>
    if (root + 2 ^ bits) * (root + 2 ^ bits) ≤ n then sqrtFrom n bits (root + 2 ^ bits) else sqrtFrom n bits root

/-- The square root of a positive number: enough bits of it, the last one standing for whatever is cut off. -/
def sqrtNumber (fmt : FpFormat) (ctl : FpControl) (mant : Nat) (exp : Int) : FpResult :=
  let extra := 2 * (fmt.fracBits + 3) + (if exp % 2 = 0 then 0 else 1)
  let scaled := mant * 2 ^ extra
  let root := sqrtFrom scaled (Nat.log2 scaled / 2 + 1) 0
  let r := 2 * root + (if root * root = scaled then 0 else 1)
  roundNumber fmt ctl false r ((exp - extra) / 2 - 1)

/-- FSQRT (R423). -/
def fpSqrt (fmt : FpFormat) (ctl : FpControl) (x : Nat) : FpResult :=
  match fmt.read x with
  | .nan sign signalling frac =>
    { bits := nanResult fmt fmt sign frac, exc := if signalling then .invalid else .none }
  | .zero sign => exactResult (fmt.pack sign 0 0)
  | .infinite false => exactResult (fmt.pack false fmt.maxExp 0)
  | .infinite true => invalidResult fmt
  | .number true _ _ => invalidResult fmt
  | .number false mant exp => sqrtNumber fmt ctl mant exp

/-! ### Conversions (R440 to R451) -/

/-- Between formats (R446, R448). -/
def fpConvert (src dst : FpFormat) (ctl : FpControl) (x : Nat) : FpResult :=
  match src.read x with
  | .nan sign signalling frac =>
    { bits := nanResult src dst sign frac, exc := if signalling then .invalid else .none }
  | .infinite sign => exactResult (dst.pack sign dst.maxExp 0)
  | .zero sign => exactResult (dst.pack sign 0 0)
  | .number sign mant exp => roundNumber dst ctl sign mant exp

/-- From a 32-bit integer (R440). Zero gives +0. -/
def fpOfInteger (dst : FpFormat) (ctl : FpControl) (w : Word) : FpResult :=
  if w = 0#32 then exactResult (dst.pack false 0 0) else roundNumber dst ctl w.msb w.toInt.natAbs 0

/-- The integer result of an invalid conversion (R443). -/
def invalidInteger (sign : Bool) : FpResult :=
  { bits := if sign then 0x80000000 else 0x7FFFFFFF, exc := .invalid }

/-- To a 32-bit integer, toward zero whatever FSR.RD is (R443). -/
def fpToInteger (src : FpFormat) (x : Nat) : FpResult :=
  match src.read x with
  | .nan sign _ _ => invalidInteger sign
  | .infinite sign => invalidInteger sign
  | .zero _ => exactResult 0
  | .number sign mant exp =>
    let scaled := mant * 2 ^ exp.toNat
    let whole := scaled / 2 ^ (-exp).toNat
    let value : Int := if sign then -(whole : Int) else whole
    if 2 ^ 31 - 1 < value ∨ value < -(2 ^ 31) then invalidInteger sign
    else { bits := (BitVec.ofInt 32 value).toNat
           exc := { FpExceptions.none with nx := decide (scaled % 2 ^ (-exp).toNat ≠ 0) } }

/-! ### Compares (R452, R455) -/

/-- fcc: 0 equal, 1 less, 2 greater (R452). -/
def fccOfInts (a b : Int) : Nat := if a = b then 0 else if a < b then 1 else 2

/-- The fcc of two values that are no NaNs (R452): +0 and -0 are equal. -/
def compareValues (a b : FpValue) : Nat :=
  match a, b with
  | .infinite sa, .infinite sb => if sa = sb then 0 else if sa then 1 else 2
  | .infinite sa, _ => if sa then 1 else 2
  | _, .infinite sb => if sb then 2 else 1
  | _, _ =>
    let unit := min (a.exponentOr (b.exponentOr 0)) (b.exponentOr (a.exponentOr 0))
    fccOfInts (a.scaled unit) (b.scaled unit)

/-- Whether a value is a NaN. -/
def FpValue.isNan : FpValue → Bool
  | .nan _ _ _ => true
  | _ => false

/-- Whether a value is a signalling NaN. -/
def FpValue.isSignalling : FpValue → Bool
  | .nan _ signalling _ => signalling
  | _ => false

/-- FCMP and, with `signalQuiet`, FCMPE (R452, R455): the bits of the result are the fcc. -/
def fpCompare (signalQuiet : Bool) (fmt : FpFormat) (x y : Nat) : FpResult :=
  let a := fmt.read x
  let b := fmt.read y
  if a.isNan || b.isNan then
    { bits := 3, exc := if signalQuiet || a.isSignalling || b.isSignalling then .invalid else .none }
  else exactResult (compareValues a b)

end Sys2Proof.Machine
end

