-- ==== Sys2Proof/Machine/Fpop.lean ====
section
/-! DEFINITION. The floating-point operate instructions (47_fpop_cpop_misc.md R411 to R458): one table, one execution,
one meaning for each instruction. -/

namespace Sys2Proof.Machine

/-- The FPops of R458. -/
inductive FpOp where
  | fmovs
  | fnegs
  | fabss
  | fsqrts
  | fsqrtd
  | fsqrtq
  | fadds
  | faddd
  | faddq
  | fsubs
  | fsubd
  | fsubq
  | fmuls
  | fmuld
  | fmulq
  | fdivs
  | fdivd
  | fdivq
  | fsmuld
  | fdmulq
  | fitos
  | fitod
  | fitoq
  | fstoi
  | fdtoi
  | fqtoi
  | fstod
  | fstoq
  | fdtos
  | fdtoq
  | fqtos
  | fqtod
  | fcmps
  | fcmpd
  | fcmpq
  | fcmpes
  | fcmped
  | fcmpeq
deriving DecidableEq, Repr

/-- The type of an operand or result of R458. An integer is a single in size (R413). -/
inductive FpKind where
  | absent
  | single
  | double
  | quad
deriving DecidableEq, Repr

/-- The format of a kind. -/
def FpKind.format : FpKind → FpFormat
  | .quad => fpQuad
  | .double => fpDouble
  | .single => fpSingle
  | .absent => fpSingle

/-- op3 of R131. -/
def FpOp.op3 : FpOp → BitVec 6
  | .fcmps | .fcmpd | .fcmpq | .fcmpes | .fcmped | .fcmpeq => 0b110101#6
  | .fmovs | .fnegs | .fabss | .fsqrts | .fsqrtd | .fsqrtq | .fadds | .faddd | .faddq | .fsubs | .fsubd
  | .fsubq | .fmuls | .fmuld | .fmulq | .fdivs | .fdivd | .fdivq | .fsmuld | .fdmulq | .fitos | .fitod | .fitoq
  | .fstoi | .fdtoi | .fqtoi | .fstod | .fstoq | .fdtos | .fdtoq | .fqtos | .fqtod => 0b110100#6

/-- opf of R131. -/
def FpOp.opf : FpOp → BitVec 9
  | .fmovs => 0x001#9
  | .fnegs => 0x005#9
  | .fabss => 0x009#9
  | .fsqrts => 0x029#9
  | .fsqrtd => 0x02a#9
  | .fsqrtq => 0x02b#9
  | .fadds => 0x041#9
  | .faddd => 0x042#9
  | .faddq => 0x043#9
  | .fsubs => 0x045#9
  | .fsubd => 0x046#9
  | .fsubq => 0x047#9
  | .fmuls => 0x049#9
  | .fmuld => 0x04a#9
  | .fmulq => 0x04b#9
  | .fdivs => 0x04d#9
  | .fdivd => 0x04e#9
  | .fdivq => 0x04f#9
  | .fsmuld => 0x069#9
  | .fdmulq => 0x06e#9
  | .fitos => 0x0c4#9
  | .fitod => 0x0c8#9
  | .fitoq => 0x0cc#9
  | .fstoi => 0x0d1#9
  | .fdtoi => 0x0d2#9
  | .fqtoi => 0x0d3#9
  | .fstod => 0x0c9#9
  | .fstoq => 0x0cd#9
  | .fdtos => 0x0c6#9
  | .fdtoq => 0x0ce#9
  | .fqtos => 0x0c7#9
  | .fqtod => 0x0cb#9
  | .fcmps => 0x051#9
  | .fcmpd => 0x052#9
  | .fcmpq => 0x053#9
  | .fcmpes => 0x055#9
  | .fcmped => 0x056#9
  | .fcmpeq => 0x057#9

/-- What rs1 holds (R458). -/
def FpOp.rs1Kind : FpOp → FpKind
  | .fmovs | .fnegs | .fabss | .fsqrts | .fsqrtd | .fsqrtq | .fitos | .fitod | .fitoq | .fstoi | .fdtoi
  | .fqtoi | .fstod | .fstoq | .fdtos | .fdtoq | .fqtos | .fqtod => .absent
  | .fadds | .fsubs | .fmuls | .fdivs | .fsmuld | .fcmps | .fcmpes => .single
  | .faddd | .fsubd | .fmuld | .fdivd | .fdmulq | .fcmpd | .fcmped => .double
  | .faddq | .fsubq | .fmulq | .fdivq | .fcmpq | .fcmpeq => .quad

/-- What rs2 holds (R458). -/
def FpOp.rs2Kind : FpOp → FpKind
  | .fmovs | .fnegs | .fabss | .fsqrts | .fadds | .fsubs | .fmuls | .fdivs | .fsmuld | .fitos | .fitod | .fitoq
  | .fstoi | .fstod | .fstoq | .fcmps | .fcmpes => .single
  | .fsqrtd | .faddd | .fsubd | .fmuld | .fdivd | .fdmulq | .fdtoi | .fdtos | .fdtoq | .fcmpd | .fcmped => .double
  | .fsqrtq | .faddq | .fsubq | .fmulq | .fdivq | .fqtoi | .fqtos | .fqtod | .fcmpq | .fcmpeq => .quad

/-- What rd receives (R458); a compare writes fcc and no register. -/
def FpOp.rdKind : FpOp → FpKind
  | .fcmps | .fcmpd | .fcmpq | .fcmpes | .fcmped | .fcmpeq => .absent
  | .fmovs | .fnegs | .fabss | .fsqrts | .fadds | .fsubs | .fmuls | .fdivs | .fitos | .fstoi | .fdtoi | .fqtoi
  | .fdtos | .fqtos => .single
  | .fsqrtd | .faddd | .fsubd | .fmuld | .fdivd | .fsmuld | .fitod | .fstod | .fqtod => .double
  | .fsqrtq | .faddq | .fsubq | .fmulq | .fdivq | .fdmulq | .fitoq | .fstoq | .fdtoq => .quad

/-- Whether an FPop moves bits and does no arithmetic (R420 to R422). -/
def FpOp.isMove : FpOp → Bool
  | .fmovs | .fnegs | .fabss => true
  | .fsqrts | .fsqrtd | .fsqrtq | .fadds | .faddd | .faddq | .fsubs | .fsubd | .fsubq | .fmuls | .fmuld
  | .fmulq | .fdivs | .fdivd | .fdivq | .fsmuld | .fdmulq | .fitos | .fitod | .fitoq | .fstoi | .fdtoi | .fqtoi
  | .fstod | .fstoq | .fdtos | .fdtoq | .fqtos | .fqtod | .fcmps | .fcmpd | .fcmpq | .fcmpes | .fcmped
  | .fcmpeq => false

/-- A quad-precision operation (R412): one whose operand or result is a quad. -/
def FpOp.isQuad (op : FpOp) : Bool :=
  decide (op.rs1Kind = .quad) || decide (op.rs2Kind = .quad) || decide (op.rdKind = .quad)

/-- The operation on the bit patterns of its operands (R420 to R457); `x` is rs1's and `y` is rs2's. -/
def FpOp.compute (op : FpOp) (ctl : FpControl) (x y : Nat) : FpResult :=
  match op with
  | .fmovs => exactResult y
  | .fnegs => exactResult (BitVec.ofNat 32 y ^^^ 0x80000000#32).toNat
  | .fabss => exactResult (BitVec.ofNat 32 y &&& 0x7FFFFFFF#32).toNat
  | .fsqrts => fpSqrt fpSingle ctl y
  | .fsqrtd => fpSqrt fpDouble ctl y
  | .fsqrtq => fpSqrt fpQuad ctl y
  | .fadds => fpAdd fpSingle ctl x y
  | .faddd => fpAdd fpDouble ctl x y
  | .faddq => fpAdd fpQuad ctl x y
  | .fsubs => fpSub fpSingle ctl x y
  | .fsubd => fpSub fpDouble ctl x y
  | .fsubq => fpSub fpQuad ctl x y
  | .fmuls => fpMul fpSingle fpSingle ctl x y
  | .fmuld => fpMul fpDouble fpDouble ctl x y
  | .fmulq => fpMul fpQuad fpQuad ctl x y
  | .fdivs => fpDiv fpSingle ctl x y
  | .fdivd => fpDiv fpDouble ctl x y
  | .fdivq => fpDiv fpQuad ctl x y
  | .fsmuld => fpMul fpSingle fpDouble ctl x y
  | .fdmulq => fpMul fpDouble fpQuad ctl x y
  | .fitos => fpOfInteger fpSingle ctl (BitVec.ofNat 32 y)
  | .fitod => fpOfInteger fpDouble ctl (BitVec.ofNat 32 y)
  | .fitoq => fpOfInteger fpQuad ctl (BitVec.ofNat 32 y)
  | .fstoi => fpToInteger fpSingle y
  | .fdtoi => fpToInteger fpDouble y
  | .fqtoi => fpToInteger fpQuad y
  | .fstod => fpConvert fpSingle fpDouble ctl y
  | .fstoq => fpConvert fpSingle fpQuad ctl y
  | .fdtos => fpConvert fpDouble fpSingle ctl y
  | .fdtoq => fpConvert fpDouble fpQuad ctl y
  | .fqtos => fpConvert fpQuad fpSingle ctl y
  | .fqtod => fpConvert fpQuad fpDouble ctl y
  | .fcmps => fpCompare false fpSingle x y
  | .fcmpd => fpCompare false fpDouble x y
  | .fcmpq => fpCompare false fpQuad x y
  | .fcmpes => fpCompare true fpSingle x y
  | .fcmped => fpCompare true fpDouble x y
  | .fcmpeq => fpCompare true fpQuad x y

/-! ### Register operands (R413) -/

/-- Whether a register number is aligned for a kind (R413). -/
def FpKind.alignedNumber (k : FpKind) (n : RegNum) : Bool :=
  match k with
  | .absent => true
  | .single => true
  | .double => n.extractLsb' 0 1 == 0#1
  | .quad => n.extractLsb' 0 2 == 0#2

/-- The first register of an operand: its number with the low bits of a misaligned one taken as zero (R413). -/
def FpKind.firstRegister (k : FpKind) (n : RegNum) : RegNum :=
  match k with
  | .absent => n
  | .single => n
  | .double => n &&& 0b11110#5
  | .quad => n &&& 0b11100#5

/-- The bit pattern of an operand, most significant word first (R55, R413). -/
def readFp (k : FpKind) (n : RegNum) (s : State) : Nat :=
  let r := k.firstRegister n
  match k with
  | .absent => 0
  | .single => (readF r s).toNat
  | .double => (readF r s ++ readF (r + 1#5) s).toNat
  | .quad => (readF r s ++ readF (r + 1#5) s ++ readF (r + 2#5) s ++ readF (r + 3#5) s).toNat

/-- A result written, most significant word first (R55, R413). -/
def writeFp (k : FpKind) (n : RegNum) (bits : Nat) (s : State) : State :=
  let r := k.firstRegister n
  let v := BitVec.ofNat 128 bits
  match k with
  | .absent => s
  | .single => writeF r (v.extractLsb' 0 32) s
  | .double => writeF (r + 1#5) (v.extractLsb' 0 32) (writeF r (v.extractLsb' 32 32) s)
  | .quad =>
    writeF (r + 3#5) (v.extractLsb' 0 32)
      (writeF (r + 2#5) (v.extractLsb' 32 32)
        (writeF (r + 1#5) (v.extractLsb' 64 32) (writeF r (v.extractLsb' 96 32) s)))

/-- Whether every register number of an FPop is aligned (R413). -/
def FpOp.alignedOperands (op : FpOp) (rd rs1 rs2 : RegNum) : Bool :=
  op.rs1Kind.alignedNumber rs1 && op.rs2Kind.alignedNumber rs2 && op.rdKind.alignedNumber rd

/-! ### Execution (R411 to R416) -/

/-- The word of an FPop, as the queue keeps it (R412, R415). -/
def fpopWord (op : FpOp) (rd rs1 rs2 : RegNum) : Word :=
  encodeFormat3 0b10#2 rd op.op3 rs1 (opfBits op.opf rs2)

/-- An FPop that the FPU does not finish: its pair in the queue, ftt, and the exception pending (R59, R412, R415). -/
def queueFpop (ftt : BitVec 3) (word : Word) (s : State) : State :=
  { s with fpu := { s.fpu with
      fsr := { s.fpu.fsr with ftt := ftt }
      queue := s.fpu.queue ++ [{ addr := s.pc, instr := word }]
      mode := .exceptionPending } }

/-- How the FPU rounds now (R414): FSR.RD, and UFM of FSR.TEM. -/
def fpControl (s : State) : FpControl where
  rounding := s.fpu.fsr.rd
  underflowTrap := s.fpu.fsr.tem.getLsbD 2

/-- The operation on its registers: its IEEE result, or a free one for arithmetic with NS = 1 (R414(a), log 16). -/
def fpResult (op : FpOp) (rs1 rs2 : RegNum) (s : State) : Nat × BitVec 5 :=
  let x := readFp op.rs1Kind rs1 s
  let y := readFp op.rs2Kind rs2 s
  if s.fpu.fsr.ns && !op.isMove then
    let free := Config.nonstandardFp op.opf s.fpu.fsr.rd (BitVec.ofNat 128 x) (BitVec.ofNat 128 y)
    (free.1.toNat, free.2)
  else
    let r := op.compute (fpControl s) x y
    (r.bits, r.exc.bits)

/-- cexc of an FPop that traps, from what it signals and TEM (R415): the one exception that traps, of or uf before nx;
both bits when of or uf is masked and nx traps. -/
def trappingCexc (exc tem : BitVec 5) : BitVec 5 :=
  let enabled := exc &&& tem
  if enabled.getLsbD 4 then 0b10000#5
  else if enabled.getLsbD 3 then 0b01000#5
  else if enabled.getLsbD 2 then 0b00100#5
  else if enabled.getLsbD 1 then 0b00010#5
  else exc

/-- The result in f[rd], or in FSR.fcc for a compare (R415). -/
def writeFpResult (op : FpOp) (rd : RegNum) (bits : Nat) (s : State) : State :=
  if op.rdKind = .absent then
    { s with fpu := { s.fpu with fsr := { s.fpu.fsr with fcc := BitVec.ofNat 2 bits } } }
  else writeFp op.rdKind rd bits s

/-- The FSR after an FPop that does not trap (R415). -/
def accrueExceptions (exc : BitVec 5) (s : State) : State :=
  { s with fpu := { s.fpu with fsr := { s.fpu.fsr with
      cexc := exc
      aexc := s.fpu.fsr.aexc ||| exc
      ftt := 0#3 } } }

/-- `FSR.cexc <- v` (R56). -/
def setCexc (v : BitVec 5) (s : State) : State :=
  { s with fpu := { s.fpu with fsr := { s.fpu.fsr with cexc := v } } }

/-- Finishing an FPop (R415). -/
def finishFpop (op : FpOp) (rd rs1 rs2 : RegNum) (s : State) : State :=
  let r := fpResult op rs1 rs2 s
  if r.2 &&& s.fpu.fsr.tem = 0#5 then writeFpResult op rd r.1 (accrueExceptions r.2 s)
  else queueFpop 1#3 (fpopWord op rd rs1 rs2) (setCexc (trappingCexc r.2 s.fpu.fsr.tem) s)

/-- Whether the FPU declines this operand case (R414, log 17). -/
def fpuDeclines (s : State) : Bool := s.cfg.fpuMayDecline && freeBit s.draws .fpuDeclines

/-- Steps 4 to 6 of R411: unimplemented (R412), misaligned (R413), declined (R414), or finished (R415). -/
def issueFpop (op : FpOp) (rd rs1 rs2 : RegNum) (s : State) : Outcome :=
  let word := fpopWord op rd rs1 rs2
  if op.isQuad && !s.cfg.quadFp then .next (advance (queueFpop 3#3 word s))
  else if !op.alignedOperands rd rs1 rs2 && decide (s.cfg.oddRd = .refuse) then .refused .oddRegister
  else if !op.alignedOperands rd rs1 rs2 && decide (s.cfg.oddRd = .illegalInstruction) then
    .next (advance (queueFpop 6#3 word s))
  else if fpuDeclines s then .next (advance (queueFpop 2#3 word s))
  else .next (advance (finishFpop op rd rs1 rs2 s))

/-- An FPop (R411). -/
def fpop (op : FpOp) (rd rs1 rs2 : RegNum) (s : State) : Outcome := fpOperate s (issueFpop op rd rs1 rs2 s)

/-- An FPop1 or FPop2 word whose opf is unassigned: an unimplemented FPop (R411, R412). -/
def execUnimplementedFpop (w : Word) (s : State) : Outcome :=
  fpOperate s (.next (advance (queueFpop 3#3 w s)))

/-- FMOVs (R420). -/
def execFmovs (rd rs1 rs2 : RegNum) (s : State) : Outcome := fpop .fmovs rd rs1 rs2 s

/-- FNEGs (R421). -/
def execFnegs (rd rs1 rs2 : RegNum) (s : State) : Outcome := fpop .fnegs rd rs1 rs2 s

/-- FABSs (R422). -/
def execFabss (rd rs1 rs2 : RegNum) (s : State) : Outcome := fpop .fabss rd rs1 rs2 s

/-- FSQRTs (R423). -/
def execFsqrts (rd rs1 rs2 : RegNum) (s : State) : Outcome := fpop .fsqrts rd rs1 rs2 s

/-- FSQRTd (R424). -/
def execFsqrtd (rd rs1 rs2 : RegNum) (s : State) : Outcome := fpop .fsqrtd rd rs1 rs2 s

/-- FSQRTq (R425). -/
def execFsqrtq (rd rs1 rs2 : RegNum) (s : State) : Outcome := fpop .fsqrtq rd rs1 rs2 s

/-- FADDs (R426). -/
def execFadds (rd rs1 rs2 : RegNum) (s : State) : Outcome := fpop .fadds rd rs1 rs2 s

/-- FADDd (R427). -/
def execFaddd (rd rs1 rs2 : RegNum) (s : State) : Outcome := fpop .faddd rd rs1 rs2 s

/-- FADDq (R428). -/
def execFaddq (rd rs1 rs2 : RegNum) (s : State) : Outcome := fpop .faddq rd rs1 rs2 s

/-- FSUBs (R429). -/
def execFsubs (rd rs1 rs2 : RegNum) (s : State) : Outcome := fpop .fsubs rd rs1 rs2 s

/-- FSUBd (R430). -/
def execFsubd (rd rs1 rs2 : RegNum) (s : State) : Outcome := fpop .fsubd rd rs1 rs2 s

/-- FSUBq (R431). -/
def execFsubq (rd rs1 rs2 : RegNum) (s : State) : Outcome := fpop .fsubq rd rs1 rs2 s

/-- FMULs (R432). -/
def execFmuls (rd rs1 rs2 : RegNum) (s : State) : Outcome := fpop .fmuls rd rs1 rs2 s

/-- FMULd (R433). -/
def execFmuld (rd rs1 rs2 : RegNum) (s : State) : Outcome := fpop .fmuld rd rs1 rs2 s

/-- FMULq (R434). -/
def execFmulq (rd rs1 rs2 : RegNum) (s : State) : Outcome := fpop .fmulq rd rs1 rs2 s

/-- FDIVs (R435). -/
def execFdivs (rd rs1 rs2 : RegNum) (s : State) : Outcome := fpop .fdivs rd rs1 rs2 s

/-- FDIVd (R436). -/
def execFdivd (rd rs1 rs2 : RegNum) (s : State) : Outcome := fpop .fdivd rd rs1 rs2 s

/-- FDIVq (R437). -/
def execFdivq (rd rs1 rs2 : RegNum) (s : State) : Outcome := fpop .fdivq rd rs1 rs2 s

/-- FsMULd (R438). -/
def execFsmuld (rd rs1 rs2 : RegNum) (s : State) : Outcome := fpop .fsmuld rd rs1 rs2 s

/-- FdMULq (R439). -/
def execFdmulq (rd rs1 rs2 : RegNum) (s : State) : Outcome := fpop .fdmulq rd rs1 rs2 s

/-- FiTOs (R440). -/
def execFitos (rd rs1 rs2 : RegNum) (s : State) : Outcome := fpop .fitos rd rs1 rs2 s

/-- FiTOd (R441). -/
def execFitod (rd rs1 rs2 : RegNum) (s : State) : Outcome := fpop .fitod rd rs1 rs2 s

/-- FiTOq (R442). -/
def execFitoq (rd rs1 rs2 : RegNum) (s : State) : Outcome := fpop .fitoq rd rs1 rs2 s

/-- FsTOi (R443). -/
def execFstoi (rd rs1 rs2 : RegNum) (s : State) : Outcome := fpop .fstoi rd rs1 rs2 s

/-- FdTOi (R444). -/
def execFdtoi (rd rs1 rs2 : RegNum) (s : State) : Outcome := fpop .fdtoi rd rs1 rs2 s

/-- FqTOi (R445). -/
def execFqtoi (rd rs1 rs2 : RegNum) (s : State) : Outcome := fpop .fqtoi rd rs1 rs2 s

/-- FsTOd (R446). -/
def execFstod (rd rs1 rs2 : RegNum) (s : State) : Outcome := fpop .fstod rd rs1 rs2 s

/-- FsTOq (R447). -/
def execFstoq (rd rs1 rs2 : RegNum) (s : State) : Outcome := fpop .fstoq rd rs1 rs2 s

/-- FdTOs (R448). -/
def execFdtos (rd rs1 rs2 : RegNum) (s : State) : Outcome := fpop .fdtos rd rs1 rs2 s

/-- FdTOq (R449). -/
def execFdtoq (rd rs1 rs2 : RegNum) (s : State) : Outcome := fpop .fdtoq rd rs1 rs2 s

/-- FqTOs (R450). -/
def execFqtos (rd rs1 rs2 : RegNum) (s : State) : Outcome := fpop .fqtos rd rs1 rs2 s

/-- FqTOd (R451). -/
def execFqtod (rd rs1 rs2 : RegNum) (s : State) : Outcome := fpop .fqtod rd rs1 rs2 s

/-- FCMPs (R452). -/
def execFcmps (rd rs1 rs2 : RegNum) (s : State) : Outcome := fpop .fcmps rd rs1 rs2 s

/-- FCMPd (R453). -/
def execFcmpd (rd rs1 rs2 : RegNum) (s : State) : Outcome := fpop .fcmpd rd rs1 rs2 s

/-- FCMPq (R454). -/
def execFcmpq (rd rs1 rs2 : RegNum) (s : State) : Outcome := fpop .fcmpq rd rs1 rs2 s

/-- FCMPEs (R455). -/
def execFcmpes (rd rs1 rs2 : RegNum) (s : State) : Outcome := fpop .fcmpes rd rs1 rs2 s

/-- FCMPEd (R456). -/
def execFcmped (rd rs1 rs2 : RegNum) (s : State) : Outcome := fpop .fcmped rd rs1 rs2 s

/-- FCMPEq (R457). -/
def execFcmpeq (rd rs1 rs2 : RegNum) (s : State) : Outcome := fpop .fcmpeq rd rs1 rs2 s

end Sys2Proof.Machine
end

