-- ==== Sys2Proof/Machine/Misc.lean ====
section
/-! DEFINITION. The coprocessor operate instructions, UNIMP and FLUSH (47_fpop_cpop_misc.md R460 to R470), and the
words that no encoding assigns (30_encoding.md R133). -/

namespace Sys2Proof.Machine

/-- `coprocessor_operate(word)` (R460). -/
def coprocessorOperate (word : Word) (s : State) : State := { s with cp := Config.cpOperate s.draws word s.cp }

/-- CPop1 (R460): the whole word goes to the coprocessor. -/
def execCpop1 (rd rs1 : RegNum) (opc : BitVec 9) (rs2 : RegNum) (s : State) : Outcome :=
  cpOperate s (.next (advance (coprocessorOperate (encodeFormat3 0b10#2 rd 0b110110#6 rs1 (opfBits opc rs2)) s)))

/-- CPop2 (R461). -/
def execCpop2 (rd rs1 : RegNum) (opc : BitVec 9) (rs2 : RegNum) (s : State) : Outcome :=
  cpOperate s (.next (advance (coprocessorOperate (encodeFormat3 0b10#2 rd 0b110111#6 rs1 (opfBits opc rs2)) s)))

/-- UNIMP (R465): "The value in the const22 field is ignored." -/
def execUnimp (_const22 : BitVec 22) (s : State) : Outcome := raise .illegalInstruction s

/-- FTD, as FLUSH tests it (R470, R575). Where HAS_HYPERSPARC_ASR is false the machine has no ICCR (R75) and the spec
does not say what FTD is: DESIGN CHOICE, it is the FTD bit of ICCR_RESET, which no instruction can then change
(log 49). -/
def flushTrapDisabled (s : State) : Bool :=
  if s.delays.iccr.ftd then freeBit s.draws .flushTrapDisabled else ftdBit s.cfg s.iccr

/-- FLUSH (R470), by FLUSH_MODE. -/
def execFlush (rs1 : RegNum) (op2 : RegImm) (s : State) : Outcome :=
  match s.cfg.flushMode with
  | .icache =>
    if flushTrapDisabled s then .next (advance (flushDouble (effectiveAddress rs1 op2 s) s))
    else raise .unimplementedFlush s
  | .nop => .next (advance s)
  | .trap => raise .unimplementedFlush s

/-- A word that no encoding assigns (R133, D19). -/
def execUnassigned (s : State) : Outcome := raise .illegalInstruction s

end Sys2Proof.Machine
end

