-- ==== Sys2Proof/Machine/MulDiv.lean ====
section
/-! DEFINITION. Multiply, divide, multiply step and tagged arithmetic (44_mul_div_tagged.md). -/

namespace Sys2Proof.Machine

/-! ### Multiply (R311) -/

/-- The unsigned product, 64 bits (R311). -/
def unsignedProduct (a b : Word) : BitVec 64 := BitVec.ofNat 64 (a.toNat * b.toNat)

/-- The signed product, 64 bits (R311). -/
def signedProduct (a b : Word) : BitVec 64 := BitVec.ofInt 64 (a.toInt * b.toInt)

/-- Bits 63:32 of a product, for Y (R311). -/
def productHigh (p : BitVec 64) : Word := p.extractLsb' 32 32

/-- Bits 31:0 of a product, for r[rd] (R311). -/
def productLow (p : BitVec 64) : Word := p.extractLsb' 0 32

/-- The end of a multiply: Y and r[rd] (R311). -/
def writeProduct (rd : RegNum) (p : BitVec 64) (s : State) : Outcome :=
  .next (advance (setY (productHigh p) (writeReg .rd rd (productLow p) s)))

/-- As writeProduct, with icc from the low word (R313, R315). -/
def writeProductCc (rd : RegNum) (p : BitVec 64) (s : State) : Outcome :=
  .next (advance (setIcc (iccLogic (productLow p)) (setY (productHigh p) (writeReg .rd rd (productLow p) s))))

/-- UMUL (R312). -/
def execUmul (rd rs1 : RegNum) (op2 : RegImm) (s : State) : Outcome :=
  writeProduct rd (unsignedProduct (operand1 rs1 s) (operand2 op2 s)) s

/-- UMULcc (R313). -/
def execUmulcc (rd rs1 : RegNum) (op2 : RegImm) (s : State) : Outcome :=
  writeProductCc rd (unsignedProduct (operand1 rs1 s) (operand2 op2 s)) s

/-- SMUL (R314). -/
def execSmul (rd rs1 : RegNum) (op2 : RegImm) (s : State) : Outcome :=
  writeProduct rd (signedProduct (operand1 rs1 s) (operand2 op2 s)) s

/-- SMULcc (R315). -/
def execSmulcc (rd rs1 : RegNum) (op2 : RegImm) (s : State) : Outcome :=
  writeProductCc rd (signedProduct (operand1 rs1 s) (operand2 op2 s)) s

/-! ### Multiply step (R317) -/

/-- `op1` of R317: the incoming partial product shifted right, the sign of the previous one shifted in. -/
def stepOperand1 (icc : Icc) (a : Word) : Word := BitVec.ofBool (icc.n ^^ icc.v) ++ a.extractLsb' 1 31

/-- `op2` of R317: the multiplicand when the multiplier's low bit is 1. -/
def stepOperand2 (y b : Word) : Word := if y.getLsbD 0 then b else 0#32

/-- The new Y of R317: the multiplier shifted right, the low bit of r[rs1] shifted in. -/
def stepY (a y : Word) : Word := a.extractLsb' 0 1 ++ y.extractLsb' 1 31

/-- MULScc (R317). -/
def execMulscc (rd rs1 : RegNum) (op2 : RegImm) (s : State) : Outcome :=
  let a := operand1 rs1 s
  let y := yInUse s
  let x := stepOperand1 (iccInUse s) a
  let b := stepOperand2 y (operand2 op2 s)
  let r := x + b
  .next (advance (setIcc (iccAdd x b r) (setY (stepY a y) (writeReg .rd rd r s))))

/-! ### Divide (R320) -/

/-- The exact unsigned quotient of `Y ++ r[rs1]` (R320 step 2). -/
def unsignedQuotient (y a b : Word) : Nat := (y ++ a : BitVec 64).toNat / b.toNat

/-- The exact signed quotient of `Y ++ r[rs1]`, rounded toward zero (R320 step 2). -/
def signedQuotient (y a b : Word) : Int := (y ++ a : BitVec 64).toInt.tdiv b.toInt

/-- Unsigned overflow (R320 step 3). -/
def unsignedOverflow (q : Nat) : Bool := decide (2 ^ 32 - 1 < q)

/-- Signed overflow (R320 step 3). -/
def signedOverflow (q : Int) : Bool := decide (2 ^ 31 - 1 < q) || decide (q < -(2 ^ 31))

/-- The unsigned quotient as the register receives it (R320 step 3). -/
def clampUnsigned (q : Nat) : Word := if unsignedOverflow q then 0xFFFFFFFF#32 else BitVec.ofNat 32 q

/-- The signed quotient as the register receives it (R320 step 3). -/
def clampSigned (q : Int) : Word :=
  if 2 ^ 31 - 1 < q then 0x7FFFFFFF#32 else if q < -(2 ^ 31) then 0x80000000#32 else BitVec.ofInt 32 q

/-- What Y holds after a divide that completes: any value (R320 step 5, D14, log 19). -/
def yAfterDivide (s : State) : Word := Config.freeBits 32 s.draws .yAfterDivide

/-- The end of a divide that does not trap (R320). -/
def writeQuotient (rd : RegNum) (q : Word) (s : State) : State := setY (yAfterDivide s) (writeReg .rd rd q s)

/-- UDIV (R321). -/
def execUdiv (rd rs1 : RegNum) (op2 : RegImm) (s : State) : Outcome :=
  let b := operand2 op2 s
  if b = 0#32 then raise .divisionByZero s
  else .next (advance (writeQuotient rd (clampUnsigned (unsignedQuotient (yInUse s) (operand1 rs1 s) b)) s))

/-- UDIVcc (R322). -/
def execUdivcc (rd rs1 : RegNum) (op2 : RegImm) (s : State) : Outcome :=
  let b := operand2 op2 s
  if b = 0#32 then raise .divisionByZero s
  else
    let q := unsignedQuotient (yInUse s) (operand1 rs1 s) b
    .next (advance (setIcc (iccDivide (clampUnsigned q) (unsignedOverflow q)) (writeQuotient rd (clampUnsigned q) s)))

/-- SDIV (R323). -/
def execSdiv (rd rs1 : RegNum) (op2 : RegImm) (s : State) : Outcome :=
  let b := operand2 op2 s
  if b = 0#32 then raise .divisionByZero s
  else .next (advance (writeQuotient rd (clampSigned (signedQuotient (yInUse s) (operand1 rs1 s) b)) s))

/-- SDIVcc (R324). -/
def execSdivcc (rd rs1 : RegNum) (op2 : RegImm) (s : State) : Outcome :=
  let b := operand2 op2 s
  if b = 0#32 then raise .divisionByZero s
  else
    let q := signedQuotient (yInUse s) (operand1 rs1 s) b
    .next (advance (setIcc (iccDivide (clampSigned q) (signedOverflow q)) (writeQuotient rd (clampSigned q) s)))

/-! ### Tagged arithmetic (R330) -/

/-- TADDcc (R331). -/
def execTaddcc (rd rs1 : RegNum) (op2 : RegImm) (s : State) : Outcome :=
  let a := operand1 rs1 s
  let b := operand2 op2 s
  writeResultCc rd (a + b) { iccAdd a b (a + b) with v := taggedAddOverflow a b (a + b) } s

/-- TSUBcc (R332). -/
def execTsubcc (rd rs1 : RegNum) (op2 : RegImm) (s : State) : Outcome :=
  let a := operand1 rs1 s
  let b := operand2 op2 s
  writeResultCc rd (a - b) { iccSub a b (a - b) with v := taggedSubOverflow a b (a - b) } s

/-- TADDccTV (R333). -/
def execTaddcctv (rd rs1 : RegNum) (op2 : RegImm) (s : State) : Outcome :=
  let a := operand1 rs1 s
  let b := operand2 op2 s
  if taggedAddOverflow a b (a + b) then raise .tagOverflow s
  else writeResultCc rd (a + b) { iccAdd a b (a + b) with v := false } s

/-- TSUBccTV (R334). -/
def execTsubcctv (rd rs1 : RegNum) (op2 : RegImm) (s : State) : Outcome :=
  let a := operand1 rs1 s
  let b := operand2 op2 s
  if taggedSubOverflow a b (a - b) then raise .tagOverflow s
  else writeResultCc rd (a - b) { iccSub a b (a - b) with v := false } s

end Sys2Proof.Machine
end

