-- ==== Sys2Proof/Machine/StateRegs.lean ====
section
/-! DEFINITION. The instructions that read and write the state registers (46_state_registers.md), with the delayed
writes of 70_reset_and_hazards.md R570 to R575. -/

namespace Sys2Proof.Machine

/-! ### The registers as words -/

/-- The PSR as RDPSR reads it (R40, R383). -/
def psrWord (cfg : Config) (p : Psr) : Word :=
  cfg.psrImpl ++ cfg.psrVer ++ BitVec.ofBool p.icc.n ++ BitVec.ofBool p.icc.z ++ BitVec.ofBool p.icc.v
    ++ BitVec.ofBool p.icc.c ++ 0#6 ++ BitVec.ofBool p.ec ++ BitVec.ofBool p.ef ++ p.pil ++ BitVec.ofBool p.s
    ++ BitVec.ofBool p.ps ++ BitVec.ofBool p.et ++ 0#2 ++ p.cwp

/-- The PSR after WRPSR of `w` (R42, R393). -/
def psrOfWord (w : Word) : Psr where
  icc := { n := w.getLsbD 23, z := w.getLsbD 22, v := w.getLsbD 21, c := w.getLsbD 20 }
  ec := w.getLsbD 13
  ef := w.getLsbD 12
  pil := w.extractLsb' 8 4
  s := w.getLsbD 7
  ps := w.getLsbD 6
  et := w.getLsbD 5
  cwp := w.extractLsb' 0 3

/-- A bit repeated over a field. -/
def repeatBit (w : Nat) (b : Bool) : BitVec w := if b then BitVec.allOnes w else 0#w

/-- The bits of the PSR that are being modified (R570). -/
def psrMask (d : PsrDelay) : Word :=
  0#8 ++ repeatBit 4 d.icc ++ 0#6 ++ repeatBit 1 d.ec ++ repeatBit 1 d.ef ++ repeatBit 4 (!d.oldPil.isEmpty)
    ++ repeatBit 1 d.s ++ repeatBit 1 d.ps ++ repeatBit 1 (!d.oldEt.isEmpty) ++ 0#2 ++ repeatBit 3 d.cwp

/-- A register value with its masked bits free (R570). -/
def withFreeBits {w : Nat} (mask v free : BitVec w) : BitVec w :=
  if mask = 0#w then v else (v &&& ~~~mask) ||| (free &&& mask)

/-- The PSR as an instruction inside a delayed-write window reads it (R383, R570). -/
def psrInUse (s : State) : Word :=
  withFreeBits (psrMask s.delays.psr) (psrWord s.cfg s.psr) (Config.freeBits 32 s.draws .psrRead)

/-- The WIM as RDWIM reads it (R384, R571). -/
def wimInUse (s : State) : Word :=
  (withFreeBits s.delays.wim.mask s.wim (Config.freeBits 8 s.draws .wimRead)).zeroExtend 32

/-- The TBR as RDTBR reads it (R385, R572). -/
def tbrInUse (s : State) : Word :=
  vectorAddress (if s.delays.tbr.oldTba.isEmpty then s.tbr.tba else Config.freeBits 20 s.draws .tbaRead) s.tbr.tt

/-- DIAG as RDASR reads it (R51, R575). -/
def diagInUse (s : State) : Word :=
  if s.delays.diag.masked then Config.freeBits 32 s.draws .diagRead else s.diag

/-- ICCR as RDASR reads it (R50, R575). -/
def iccrInUse (s : State) : Word :=
  if s.delays.iccr.masked then Config.freeBits 32 s.draws .iccrRead else s.iccr

/-! ### Reads (R380) -/

/-- A privileged read (R380). -/
def privilegedRead (rd : RegNum) (v : Word) (s : State) : Outcome :=
  if privileged s then writeResult rd v s else raise .privilegedInstruction s

/-- What a number of RDASR and WRASR names (R49, R381, R391). -/
inductive AsrKind where
  | y
  | userUnimplemented
  | privilegedUnimplemented
  | diag
  | iccr
deriving DecidableEq, Repr

/-- The register that a number names, by the tables of R381 and R391 and by ASR_DECODE and HAS_HYPERSPARC_ASR. -/
def asrKind (cfg : Config) (n : RegNum) : AsrKind :=
  if cfg.asrDecode = .ignore then .y
  else if n.toNat < 16 then .y
  else if n.toNat < 24 then .userUnimplemented
  else if n.toNat < 30 then .privilegedUnimplemented
  else if !cfg.hasHyperSparcAsr then .privilegedUnimplemented
  else if n = 30#5 then .diag
  else .iccr

/-- RDASR (R381). -/
def execRdasr (rd rs1 : RegNum) (s : State) : Outcome :=
  match asrKind s.cfg rs1 with
  | .y => writeResult rd (yInUse s) s
  | .userUnimplemented => raise .illegalInstruction s
  | .privilegedUnimplemented =>
    if privileged s then raise .illegalInstruction s else raise .privilegedInstruction s
  | .diag => privilegedRead rd (diagInUse s) s
  | .iccr => privilegedRead rd (iccrInUse s) s

/-- RDY (R382). -/
def execRdy (rd : RegNum) (s : State) : Outcome := writeResult rd (yInUse s) s

/-- RDPSR (R383). -/
def execRdpsr (rd : RegNum) (s : State) : Outcome := privilegedRead rd (psrInUse s) s

/-- RDWIM (R384). -/
def execRdwim (rd : RegNum) (s : State) : Outcome := privilegedRead rd (wimInUse s) s

/-- RDTBR (R385). -/
def execRdtbr (rd : RegNum) (s : State) : Outcome := privilegedRead rd (tbrInUse s) s

/-! ### Writes (R390): each is a delayed write, which lands at once and opens its window -/

/-- `value = r[rs1] xor operand2` (R390). -/
def writeValue (rs1 : RegNum) (op2 : RegImm) (s : State) : Word := operand1 rs1 s ^^^ operand2 op2 s

/-- Y written by WRY (R392, R573). -/
def delayedWriteY (v : Word) (s : State) : State :=
  let t := advance s
  { t with y := v, delays := { t.delays with y := s.delays.y.write s.y v } }

/-- DIAG written by WRASR (R391, R575). -/
def delayedWriteDiag (v : Word) (s : State) : State :=
  let t := advance s
  { t with diag := v, delays := { t.delays with diag := s.delays.diag.write s.diag v } }

/-- ICCR written by WRASR (R391, R575). -/
def delayedWriteIccr (v : Word) (s : State) : State :=
  let t := advance s
  { t with iccr := v, delays := { t.delays with iccr := s.delays.iccr.write s.cfg s.iccr v } }

/-- The PSR written by WRPSR (R393, R570). -/
def delayedWritePsr (p : Psr) (s : State) : State :=
  let t := advance s
  { t with psr := p, delays := { t.delays with psr := s.delays.psr.write s.psr p } }

/-- WIM written by WRWIM (R394, R571). -/
def delayedWriteWim (v : BitVec 8) (s : State) : State :=
  let t := advance s
  { t with wim := v, delays := { t.delays with wim := s.delays.wim.write s.wim v } }

/-- TBA written by WRTBR (R395, R572). -/
def delayedWriteTba (v : BitVec 20) (s : State) : State :=
  let t := advance s
  { t with tbr := { s.tbr with tba := v }, delays := { t.delays with tbr := s.delays.tbr.write s.tbr.tba v } }

/-- WRASR (R391). -/
def execWrasr (rd rs1 : RegNum) (op2 : RegImm) (s : State) : Outcome :=
  match asrKind s.cfg rd with
  | .y => .next (delayedWriteY (writeValue rs1 op2 s) s)
  | .userUnimplemented => raise .illegalInstruction s
  | .privilegedUnimplemented =>
    if privileged s then raise .illegalInstruction s else raise .privilegedInstruction s
  | .diag =>
    if privileged s then .next (delayedWriteDiag (writeValue rs1 op2 s) s) else raise .privilegedInstruction s
  | .iccr =>
    if privileged s then .next (delayedWriteIccr (writeValue rs1 op2 s) s) else raise .privilegedInstruction s

/-- WRY (R392). -/
def execWry (rs1 : RegNum) (op2 : RegImm) (s : State) : Outcome :=
  .next (delayedWriteY (writeValue rs1 op2 s) s)

/-- The result's CWP field points to an unimplemented window (R42, R393). -/
def illegalCwp (w : Word) : Bool := decide (nWindows ≤ (w.extractLsb' 0 5).toNat)

/-- WRPSR would clear EF while the FPU holds an exception: undefined (R417, R574(c); log 18). -/
def disablesBusyFpu (w : Word) (s : State) : Bool :=
  s.psr.ef && !w.getLsbD 12 && decide (s.fpu.mode ≠ .execute)

/-- WRPSR (R393). -/
def execWrpsr (rs1 : RegNum) (op2 : RegImm) (s : State) : Outcome :=
  let w := writeValue rs1 op2 s
  if privileged s then
    if illegalCwp w then raise .illegalInstruction s
    else if disablesBusyFpu w s then .refused .fpuDisabledWhileBusy
    else .next (delayedWritePsr (psrOfWord w) s)
  else raise .privilegedInstruction s

/-- WRWIM (R394). -/
def execWrwim (rs1 : RegNum) (op2 : RegImm) (s : State) : Outcome :=
  if privileged s then .next (delayedWriteWim ((writeValue rs1 op2 s).extractLsb' 0 8) s)
  else raise .privilegedInstruction s

/-- WRTBR (R395). -/
def execWrtbr (rs1 : RegNum) (op2 : RegImm) (s : State) : Outcome :=
  if privileged s then .next (delayedWriteTba ((writeValue rs1 op2 s).extractLsb' 12 20) s)
  else raise .privilegedInstruction s

end Sys2Proof.Machine
end

