-- ==== Sys2Proof/Machine/Step.lean ====
section
/-! DEFINITION. One step of the machine (00_scope.md R13): reset, error mode, an interrupt, an annulled slot, or one
instruction. Everything it does is defined in the files it calls. -/

namespace Sys2Proof.Machine

/-- Step 5 of R13: a word is decoded and executed. -/
def execWord (w : Word) (s : State) : Host.Outcome State Fault Refusal :=
  match decode w with
  | .instr i => exec i s
  | .unassigned => execUnassigned s
  | .unimplementedFpop => execUnimplementedFpop w s

/-- Steps 4 and 5 of R13: the fetch, which the memory system may refuse (R531), then the instruction. -/
def fetchAndExecute (s : State) : Host.Outcome State Fault Refusal :=
  match fetch s with
  | none => raise .instructionAccessException s
  | some w => execWord w s

/-- Error mode with no reset asked for (R525): it lasts while the environment has inputs to come, and otherwise the run
ends there (R591(a); log 22). -/
def haltedStep (more : Bool) (s : State) : Host.Outcome State Fault Refusal :=
  if more then .next s else .fault .errorMode

/-- The step at a boundary already crossed (R13). -/
def stepFrom (more : Bool) (s : State) : Host.Outcome State Fault Refusal :=
  if s.inputs.resetReq || (decide (s.mode = .error) && s.cfg.errorModeResets) then .next (resetTrap s)
  else if s.mode = .error then haltedStep more s
  else if interruptTaken s then .next (trapEntry (.interruptLevel s.inputs.irl) s)
  else if s.annul then .next (skipAnnulled s)
  else fetchAndExecute s

/-- One step of the machine (R13). -/
def step (s : State) : Host.Outcome State Fault Refusal := stepFrom (!s.schedule.isEmpty) (boundary s)

/-- The state with an instruction of the opcode table stored where the next step fetches, and nothing that would keep
that step from fetching it: no reset or interrupt asked for, no annulled slot, running (log 37). -/
def State.withFetchWord (s : State) (nbits w : Nat) : State :=
  placeWord (fetchSpace s) s.pc (tableWord nbits w)
    { s with annul := false, mode := .run, inputs := { irl := 0#4, resetReq := false }, schedule := [] }

end Sys2Proof.Machine
end

