-- ==== Sys2Proof/Safety.lean ====
section
/-! DEFINITION. The invariants that every reachable state has, and what a safe step is, in the terms the statements
use. -/

namespace Sys2Proof.Machine

/-- pc and npc are multiples of 4 (R32). -/
abbrev PcAligned (s : State) : Prop := aligned4 s.pc = true ∧ aligned4 s.npc = true

/-- The FPU runs exactly while its queue is empty, and otherwise the queue holds the one FPop that raised an exception
(R58, R59, D13). -/
abbrev FpuConsistent (s : State) : Prop :=
  (s.fpu.mode = .execute ∧ s.fpu.queue = []) ∨ (s.fpu.mode ≠ .execute ∧ s.fpu.queue.length = 1)

/-- The memory is in its canonical form (R80, log 3). -/
abbrev MemoryCanonical (s : State) : Prop := s.mem.wf = true

/-- Between steps no atomic access holds the memory (R240). -/
abbrev BusFree (s : State) : Prop := s.busLock = false

/-- A count of instructions is at most WRITE_DELAY, and a field is masked only while its count is not 0 (R62, R570). -/
abbrev DelaysBounded (d : Delays) : Prop :=
  d.psr.count ≤ writeDelay ∧ d.wim.count ≤ writeDelay ∧ d.tbr.count ≤ writeDelay ∧ d.y.count ≤ writeDelay
    ∧ d.diag.count ≤ writeDelay ∧ d.iccr.count ≤ writeDelay
    ∧ (d.psr.count = 0 → d.psr = noDelays.psr) ∧ (d.wim.count = 0 → d.wim = noDelays.wim)
    ∧ (d.tbr.count = 0 → d.tbr = noDelays.tbr) ∧ (d.y.count = 0 → d.y = noDelays.y)
    ∧ (d.diag.count = 0 → d.diag = noDelays.diag) ∧ (d.iccr.count = 0 → d.iccr = noDelays.iccr)

/-- What every state that a run reaches satisfies. -/
structure Inv (s : State) : Prop where
  pcAligned : PcAligned s
  fpuConsistent : FpuConsistent s
  memoryCanonical : MemoryCanonical s
  busFree : BusFree s
  delaysBounded : DelaysBounded s.delays

/-- No field of a state register is being modified: every use of a field reads its value (R570). -/
abbrev Settled (s : State) : Prop :=
  s.delays.psr.icc = false ∧ s.delays.psr.ec = false ∧ s.delays.psr.ef = false ∧ s.delays.psr.s = false
    ∧ s.delays.psr.ps = false ∧ s.delays.psr.cwp = false ∧ s.delays.psr.oldEt = [] ∧ s.delays.psr.oldPil = []
    ∧ s.delays.wim.mask = 0#8 ∧ s.delays.tbr.oldTba = [] ∧ s.delays.y.masked = false
    ∧ s.delays.diag.masked = false ∧ s.delays.iccr.masked = false ∧ s.delays.iccr.ftd = false

/-- A step that neither faults nor is refused. -/
def StepSafe (s : State) : Prop := ∃ t, step s = .next t

/-! ### Frames: what an instruction leaves as it was -/

/-- The state that no integer instruction writes, but for its own special register. -/
structure SpecialSame (s t : State) : Prop where
  wim : t.wim = s.wim
  tbr : t.tbr = s.tbr
  iccr : t.iccr = s.iccr
  diag : t.diag = s.diag
  annul : t.annul = s.annul
  mode : t.mode = s.mode
  busLock : t.busLock = s.busLock
  inputs : t.inputs = s.inputs
  cfg : t.cfg = s.cfg

/-- The FPU and the coprocessor as they were. -/
structure UnitsSame (s t : State) : Prop where
  fpu : t.fpu = s.fpu
  cp : t.cp = s.cp

/-- Every byte of every address space reads as before, and what a fetch may read is as before. -/
structure MemorySame (s t : State) : Prop where
  bytes : ∀ asi addr, readByte asi addr t = readByte asi addr s
  stale : t.stale = s.stale

/-- The default advance of R31. -/
structure Advanced (s t : State) : Prop where
  pc : t.pc = s.npc
  npc : t.npc = s.npc + 4#32

/-- Every physical r register reads as before but r[rd] of window `w`, which reads `v`; a write of r[0] changes none
(R21, R22). -/
def RegWritten (w : WindowNum) (rd : RegNum) (v : Word) (s t : State) : Prop :=
  ∀ k : Fin 136, t.regs.get k = if rd ≠ 0#5 ∧ k = physIndex w rd then v else s.regs.get k

/-- As RegWritten for the pair of a doubleword instruction: `hi` in the even register, `lo` in the odd one (R26). -/
def PairWritten (w : WindowNum) (rd : RegNum) (hi lo : Word) (s t : State) : Prop :=
  ∀ k : Fin 136, t.regs.get k = if k = physIndex w (pairOdd rd) then lo
    else if pairEven rd ≠ 0#5 ∧ k = physIndex w (pairEven rd) then hi else s.regs.get k

/-- An integer instruction that completes: r[rd], icc and Y as given, and nothing else changes. -/
structure IntegerEffect (rd : RegNum) (v : Word) (icc : Icc) (y : Word) (s t : State) : Prop where
  regs : RegWritten s.psr.cwp rd v s t
  psr : t.psr = { s.psr with icc := icc }
  y : t.y = y
  special : SpecialSame s t
  units : UnitsSame s t
  memory : MemorySame s t
  advanced : Advanced s t
  settled : Settled t

/-- As IntegerEffect for a doubleword load. -/
structure PairEffect (rd : RegNum) (hi lo : Word) (s t : State) : Prop where
  regs : PairWritten s.psr.cwp rd hi lo s t
  psr : t.psr = s.psr
  y : t.y = s.y
  special : SpecialSame s t
  units : UnitsSame s t
  memory : MemorySame s t
  advanced : Advanced s t
  settled : Settled t

/-- No r register, PSR field or Y changes, the special registers stay, and pc and npc advance. -/
structure QuietEffect (s t : State) : Prop where
  regs : t.regs = s.regs
  psr : t.psr = s.psr
  y : t.y = s.y
  special : SpecialSame s t
  advanced : Advanced s t
  settled : Settled t

/-- The bytes of `asi` from `ea` on become `bytes` (a device's byte of memory stays, log 20), every byte outside them
reads as before, and an instruction word that this changed may still be fetched at its older value, no other (R98). -/
structure BytesStored (asi : Asi) (ea : Word) (bytes : List Byte) (s t : State) : Prop where
  stored : ∀ k (h : k < bytes.length), readByte asi (ea + BitVec.ofNat 32 k) t =
    if isDevice s.cfg asi (ea + BitVec.ofNat 32 k) then readByte asi (ea + BitVec.ofNat 32 k) s else bytes[k]
  frame : ∀ asi' addr', (∀ k, k < bytes.length → cellKey asi' addr' ≠ cellKey asi (ea + BitVec.ofNat 32 k)) →
    readByte asi' addr' t = readByte asi' addr' s
  stale : ∀ addr' : Word, addr'.toNat % 4 = 0 → staleValues addr' t =
    if readWord 0x08#8 addr' t = readWord 0x08#8 addr' s then staleValues addr' s
    else readWord 0x08#8 addr' s :: staleValues addr' s

/-- The state after a trap of type `T` raised in `s` with traps enabled (R520): the saved registers, the status, the
handler's address, and everything else as it was. -/
structure TrapTaken (T : TrapType) (s t : State) : Prop where
  et : t.psr.et = false
  ps : t.psr.ps = s.psr.s
  supervisor : t.psr.s = true
  cwp : t.psr.cwp = s.psr.cwp - 1#3
  icc : t.psr.icc = s.psr.icc
  enables : t.psr.ec = s.psr.ec ∧ t.psr.ef = s.psr.ef ∧ t.psr.pil = s.psr.pil
  savedPc : t.regs.get (physIndex t.psr.cwp 17#5) = savedPc s
  savedNpc : t.regs.get (physIndex t.psr.cwp 18#5) = savedNpc s
  regs : ∀ k : Fin 136, k ≠ physIndex t.psr.cwp 17#5 → k ≠ physIndex t.psr.cwp 18#5 → t.regs.get k = s.regs.get k
  tt : t.tbr.tt = trapCode T
  tba : t.tbr.tba = s.tbr.tba
  pc : t.pc = vectorAddress (tbaForTrap s) (trapCode T)
  npc : t.npc = t.pc + 4#32
  annul : t.annul = false
  delays : t.delays = noDelays
  special : t.wim = s.wim ∧ t.y = s.y ∧ t.iccr = s.iccr ∧ t.diag = s.diag ∧ t.mode = s.mode ∧ t.cfg = s.cfg
  units : t.fpu = s.fpu ∧ t.cp = s.cp
  memory : MemorySame s t

/-- The state after a trap of type `T` raised in `s` with traps disabled (R525): tt and the mode, nothing else. -/
def ErrorModeEntered (T : TrapType) (s t : State) : Prop :=
  t = { s with tbr := { s.tbr with tt := trapCode T }, mode := .error }

/-- What a trap of type `T` does from the state `s`, by ET (R520, R525). -/
def TrapOutcome (T : TrapType) (s t : State) : Prop :=
  (s.psr.et = true → TrapTaken T s t) ∧ (s.psr.et = false → ErrorModeEntered T s t)

/-- The instruction raises a trap of type `T` in the state `s`. -/
def Raises (T : TrapType) (i : Instr) (s : State) : Prop := ∃ t, exec i s = .next t ∧ TrapOutcome T s t

/-! ### Delayed writes, instruction by instruction and step by step (R570 to R575) -/

/-- The state after a trap in `s`, or after entering error mode there: what the FPU and the coprocessor keep of it
aside, exactly the trap entry of R520 or the writes of R525. -/
def TrapEntered (s t : State) : Prop :=
  ∃ T : TrapType, t = trapEntry T { s with fpu := t.fpu, cp := t.cp } ∨
    t = enterErrorMode T { s with fpu := t.fpu, cp := t.cp }

/-- The delayed-write instructions (R570 to R575). -/
def delayedWrite : Instr → Bool
  | .wry .. | .wrasr .. | .wrpsr .. | .wrwim .. | .wrtbr .. => true
  | _ => false

/-- The other instructions that write a PSR field, at once (R575): the cc instructions, SAVE, RESTORE and RETT. -/
def writesPsrAtOnce : Instr → Bool
  | .addcc .. | .andcc .. | .orcc .. | .xorcc .. | .subcc .. | .andncc .. | .orncc .. | .xnorcc .. | .addxcc ..
  | .umulcc .. | .smulcc .. | .subxcc .. | .udivcc .. | .sdivcc .. | .taddcc .. | .tsubcc .. | .mulscc ..
  | .taddcctv .. | .tsubcctv .. | .save .. | .restore .. | .rett .. => true
  | _ => false

/-- The other instructions that write Y, at once (R573). -/
def writesYAtOnce : Instr → Bool
  | .umul .. | .smul .. | .umulcc .. | .smulcc .. | .udiv .. | .sdiv .. | .udivcc .. | .sdivcc .. | .mulscc .. => true
  | _ => false

/-- Every count falls by one. -/
structure CountsFall (d e : Delays) : Prop where
  psr : e.psr.count = d.psr.count - 1
  wim : e.wim.count = d.wim.count - 1
  tbr : e.tbr.count = d.tbr.count - 1
  y : e.y.count = d.y.count - 1
  diag : e.diag.count = d.diag.count - 1
  iccr : e.iccr.count = d.iccr.count - 1

/-- What an instruction that completes does to the windows it does not open: every count falls by one, and what is
masked stays so until the count is 0, but for the fields that the instruction itself writes at once (R570). -/
structure WindowsCounted (i : Instr) (d e : Delays) : Prop where
  counts : delayedWrite i = false → CountsFall d e
  psr : (∀ rs1 op2, i ≠ .wrpsr rs1 op2) → writesPsrAtOnce i = false → e.psr = d.psr.tick
  wim : (∀ rs1 op2, i ≠ .wrwim rs1 op2) → e.wim = d.wim.tick
  tbr : (∀ rs1 op2, i ≠ .wrtbr rs1 op2) → e.tbr = d.tbr.tick
  y : (∀ rs1 op2, i ≠ .wry rs1 op2) → (∀ rd rs1 op2, i ≠ .wrasr rd rs1 op2) → writesYAtOnce i = false → e.y = d.y.tick
  asr : (∀ rd rs1 op2, i ≠ .wrasr rd rs1 op2) → e.diag = d.diag.tick ∧ e.iccr = d.iccr.tick

/-- A step that executes an instruction or passes an annulled slot: no reset, no error mode, no interrupt; the
instruction is no delayed write and takes no trap. -/
def Executes (s t : State) : Prop :=
  step s = .next t ∧ (boundary s).inputs.resetReq = false ∧ (boundary s).mode = .run ∧
    interruptTaken (boundary s) = false ∧
    ((boundary s).annul = true ∨
      (∃ w, fetch (boundary s) = some w ∧ ∀ i, decode w = .instr i → delayedWrite i = false) ∧
        ¬ TrapEntered (boundary s) t)

/-- The data space of the mode, S not being modified (R81). -/
def modeDataSpace (s : State) : Asi := if s.psr.s then 0x0B#8 else 0x0A#8

/-- An access of `n` bytes that does not trap: a multiple of `n`, and permitted by the memory system (R85, R93). -/
abbrev AccessPermitted (kind : AccessKind) (n : Nat) (asi : Asi) (ea : Word) (s : State) : Prop :=
  ea.toNat % n = 0 ∧ accessOk s.cfg kind n asi ea = true

/-- A register number that a doubleword instruction may name (R26): an even one, or any under force_even. -/
abbrev PairNumber (rd : RegNum) (s : State) : Prop := oddNumber rd = false ∨ s.cfg.oddRd = .forceEven

/-- A mathematical integer that fits a signed word. -/
def fitsSigned (x : Int) : Bool := decide (-(2 ^ 31) ≤ x) && decide (x ≤ 2 ^ 31 - 1)

/-- The floating-point unit takes an instruction at once (R201, R411). -/
abbrev FpuReady (s : State) : Prop :=
  Settled s ∧ s.cfg.hasFpu = true ∧ s.psr.ef = true ∧ s.fpu.mode = .execute

/-- The coprocessor takes an instruction at once (R202). -/
abbrev CpReady (s : State) : Prop :=
  Settled s ∧ s.cfg.hasCp = true ∧ s.psr.ec = true ∧ s.cp.pending = false

/-- An FPop that passes the checks of R411 to R413: implemented, and its register numbers aligned or taken as such. -/
abbrev FpopAccepted (op : FpOp) (rd rs1 rs2 : RegNum) (s : State) : Prop :=
  FpuReady s ∧ (op.isQuad = false ∨ s.cfg.quadFp = true)
    ∧ (op.alignedOperands rd rs1 rs2 = true ∨ s.cfg.oddRd = .forceEven)

/-- The FPU runs this FPop to its end (R411 to R414). -/
abbrev FpopRuns (op : FpOp) (rd rs1 rs2 : RegNum) (s : State) : Prop :=
  FpopAccepted op rd rs1 rs2 s ∧ s.cfg.fpuMayDecline = false

/-- The word of a result that register `n` receives, if it receives one (R55, R413). -/
def resultWord (k : FpKind) (rd n : RegNum) (bits : Nat) : Option Word :=
  let r := k.firstRegister rd
  match k with
  | .absent => none
  | .single => if n = r then some (BitVec.ofNat 32 bits) else none
  | .double =>
    if n = r then some (BitVec.ofNat 32 (bits / 2 ^ 32))
    else if n = r + 1#5 then some (BitVec.ofNat 32 bits) else none
  | .quad =>
    if n = r then some (BitVec.ofNat 32 (bits / 2 ^ 96))
    else if n = r + 1#5 then some (BitVec.ofNat 32 (bits / 2 ^ 64))
    else if n = r + 2#5 then some (BitVec.ofNat 32 (bits / 2 ^ 32))
    else if n = r + 3#5 then some (BitVec.ofNat 32 bits) else none

/-- An FPop that completes with the result `r` and no enabled exception (R415). -/
structure FpopEffect (op : FpOp) (rd : RegNum) (r : Nat × BitVec 5) (s t : State) : Prop where
  registers : ∀ n : RegNum, readF n t = (resultWord op.rdKind rd n r.1).getD (readF n s)
  fcc : t.fpu.fsr.fcc = if op.rdKind = .absent then BitVec.ofNat 2 r.1 else s.fpu.fsr.fcc
  cexc : t.fpu.fsr.cexc = r.2
  aexc : t.fpu.fsr.aexc = s.fpu.fsr.aexc ||| r.2
  ftt : t.fpu.fsr.ftt = 0#3
  control : t.fpu.fsr.rd = s.fpu.fsr.rd ∧ t.fpu.fsr.tem = s.fpu.fsr.tem ∧ t.fpu.fsr.ns = s.fpu.fsr.ns
  queue : t.fpu.queue = s.fpu.queue ∧ t.fpu.mode = .execute
  quiet : QuietEffect s t
  cp : t.cp = s.cp
  memory : MemorySame s t

/-- An FPop that the FPU holds as a deferred exception: its pair at the end of the queue, ftt, the mode, and the f
registers, fcc and aexc as they were (R412, R415, R416). -/
structure FpopHeld (ftt : BitVec 3) (word : Word) (s t : State) : Prop where
  queue : t.fpu.queue = s.fpu.queue ++ [{ addr := s.pc, instr := word }]
  mode : t.fpu.mode = .exceptionPending
  ftt : t.fpu.fsr.ftt = ftt
  registers : t.fpu.f = s.fpu.f
  fcc : t.fpu.fsr.fcc = s.fpu.fsr.fcc
  aexc : t.fpu.fsr.aexc = s.fpu.fsr.aexc
  quiet : QuietEffect s t
  cp : t.cp = s.cp
  memory : MemorySame s t

/-- An FPop that raises an enabled exception (R415): held with ftt = 1, and in cexc an enabled exception and only
signalled ones (log 15). -/
structure FpopTrapped (word : Word) (exc : BitVec 5) (s t : State) : Prop where
  held : FpopHeld 1#3 word s t
  enabled : t.fpu.fsr.cexc &&& s.fpu.fsr.tem ≠ 0#5
  signalled : t.fpu.fsr.cexc &&& ~~~exc = 0#5

/-! ### Tables that name the instructions a statement is about -/

/-- The integer loads and stores and the atomics in the data space of the mode: kind and size of the access, and the
operands of its address (R85, R160, R240). -/
def integerAccess : Instr → Option (AccessKind × Nat × RegNum × RegImm)
  | .ld _ a b => some (.read, 4, a, b)
  | .ldub _ a b => some (.read, 1, a, b)
  | .ldsb _ a b => some (.read, 1, a, b)
  | .lduh _ a b => some (.read, 2, a, b)
  | .ldsh _ a b => some (.read, 2, a, b)
  | .ldd _ a b => some (.read, 8, a, b)
  | .st _ a b => some (.write, 4, a, b)
  | .stb _ a b => some (.write, 1, a, b)
  | .sth _ a b => some (.write, 2, a, b)
  | .std _ a b => some (.write, 8, a, b)
  | .ldstub _ a b => some (.atomic, 1, a, b)
  | .swap _ a b => some (.atomic, 4, a, b)
  | _ => none

/-- As integerAccess for the alternate-space forms (R162). -/
def alternateAccess : Instr → Option (AccessKind × Nat × RegNum × AltAddr)
  | .lda _ a b => some (.read, 4, a, b)
  | .lduba _ a b => some (.read, 1, a, b)
  | .ldsba _ a b => some (.read, 1, a, b)
  | .lduha _ a b => some (.read, 2, a, b)
  | .ldsha _ a b => some (.read, 2, a, b)
  | .ldda _ a b => some (.read, 8, a, b)
  | .sta _ a b => some (.write, 4, a, b)
  | .stba _ a b => some (.write, 1, a, b)
  | .stha _ a b => some (.write, 2, a, b)
  | .stda _ a b => some (.write, 8, a, b)
  | .ldstuba _ a b => some (.atomic, 1, a, b)
  | .swapa _ a b => some (.atomic, 4, a, b)
  | _ => none

/-- As integerAccess for the floating-point loads and stores (R200, R225). -/
def fpAccessOf : Instr → Option (AccessKind × Nat × RegNum × RegImm)
  | .ldf _ a b => some (.read, 4, a, b)
  | .lddf _ a b => some (.read, 8, a, b)
  | .ldfsr a b => some (.read, 4, a, b)
  | .stf _ a b => some (.write, 4, a, b)
  | .stdf _ a b => some (.write, 8, a, b)
  | .stfsr a b => some (.write, 4, a, b)
  | .stdfq a b => some (.write, 8, a, b)
  | _ => none

/-- As integerAccess for the coprocessor loads and stores (R200, R225). -/
def cpAccessOf : Instr → Option (AccessKind × Nat × RegNum × RegImm)
  | .ldc _ a b => some (.read, 4, a, b)
  | .lddc _ a b => some (.read, 8, a, b)
  | .ldcsr a b => some (.read, 4, a, b)
  | .stc _ a b => some (.write, 4, a, b)
  | .stdc _ a b => some (.write, 8, a, b)
  | .stcsr a b => some (.write, 4, a, b)
  | .stdcq a b => some (.write, 8, a, b)
  | _ => none

/-- rd of a doubleword instruction (R26). -/
def pairOf : Instr → Option RegNum
  | .ldd rd _ _ => some rd
  | .std rd _ _ => some rd
  | .ldda rd _ _ => some rd
  | .stda rd _ _ => some rd
  | .lddf rd _ _ => some rd
  | .stdf rd _ _ => some rd
  | .lddc rd _ _ => some rd
  | .stdc rd _ _ => some rd
  | _ => none

/-- A doubleword instruction names a pair (R26). -/
def PairReady (i : Instr) (s : State) : Prop := ∀ rd, pairOf i = some rd → PairNumber rd s

/-- STDFQ and STDCQ are privileged (R201, R202). -/
def queueStore : Instr → Bool
  | .stdfq .. | .stdcq .. => true
  | _ => false

/-- `eval_icc(cond)`, the table of R341. -/
def evalIcc (cond : BitVec 4) (f : Icc) : Bool :=
  if cond = 0b0000#4 then false
  else if cond = 0b0001#4 then f.z
  else if cond = 0b0010#4 then f.z || (f.n ^^ f.v)
  else if cond = 0b0011#4 then f.n ^^ f.v
  else if cond = 0b0100#4 then f.c || f.z
  else if cond = 0b0101#4 then f.c
  else if cond = 0b0110#4 then f.n
  else if cond = 0b0111#4 then f.v
  else if cond = 0b1000#4 then true
  else if cond = 0b1001#4 then !f.z
  else if cond = 0b1010#4 then !(f.z || (f.n ^^ f.v))
  else if cond = 0b1011#4 then !(f.n ^^ f.v)
  else if cond = 0b1100#4 then !(f.c || f.z)
  else if cond = 0b1101#4 then !f.c
  else if cond = 0b1110#4 then !f.n
  else !f.v  -- 1111

/-- The Bicc instructions: cond, the annul bit and disp22 (R341, R343). -/
def iccBranch : Instr → Option (BitVec 4 × Bool × BitVec 22)
  | .bn a d => some (0b0000#4, a, d)
  | .be a d => some (0b0001#4, a, d)
  | .ble a d => some (0b0010#4, a, d)
  | .bl a d => some (0b0011#4, a, d)
  | .bleu a d => some (0b0100#4, a, d)
  | .bcs a d => some (0b0101#4, a, d)
  | .bneg a d => some (0b0110#4, a, d)
  | .bvs a d => some (0b0111#4, a, d)
  | .ba a d => some (0b1000#4, a, d)
  | .bne a d => some (0b1001#4, a, d)
  | .bg a d => some (0b1010#4, a, d)
  | .bge a d => some (0b1011#4, a, d)
  | .bgu a d => some (0b1100#4, a, d)
  | .bcc a d => some (0b1101#4, a, d)
  | .bpos a d => some (0b1110#4, a, d)
  | .bvc a d => some (0b1111#4, a, d)
  | _ => none

/-- The Ticc instructions: cond and the operands (R341, R355). -/
def iccTrap : Instr → Option (BitVec 4 × RegNum × RegImm)
  | .tn a b => some (0b0000#4, a, b)
  | .te a b => some (0b0001#4, a, b)
  | .tle a b => some (0b0010#4, a, b)
  | .tl a b => some (0b0011#4, a, b)
  | .tleu a b => some (0b0100#4, a, b)
  | .tcs a b => some (0b0101#4, a, b)
  | .tneg a b => some (0b0110#4, a, b)
  | .tvs a b => some (0b0111#4, a, b)
  | .ta a b => some (0b1000#4, a, b)
  | .tne a b => some (0b1001#4, a, b)
  | .tg a b => some (0b1010#4, a, b)
  | .tge a b => some (0b1011#4, a, b)
  | .tgu a b => some (0b1100#4, a, b)
  | .tcc a b => some (0b1101#4, a, b)
  | .tpos a b => some (0b1110#4, a, b)
  | .tvc a b => some (0b1111#4, a, b)
  | _ => none

/-- The FBfcc instructions: the values of fcc that take the branch, whether it is the condition 1000, the annul bit and
disp22. E is 0, L 1, G 2, U 3 (R345). -/
def fccBranch : Instr → Option (List (BitVec 2) × Bool × Bool × BitVec 22)
  | .fbn a d => some ([], false, a, d)
  | .fbne a d => some ([3#2, 1#2, 2#2], false, a, d)
  | .fblg a d => some ([1#2, 2#2], false, a, d)
  | .fbul a d => some ([3#2, 1#2], false, a, d)
  | .fbl a d => some ([1#2], false, a, d)
  | .fbug a d => some ([3#2, 2#2], false, a, d)
  | .fbg a d => some ([2#2], false, a, d)
  | .fbu a d => some ([3#2], false, a, d)
  | .fba a d => some ([0#2, 1#2, 2#2, 3#2], true, a, d)
  | .fbe a d => some ([0#2], false, a, d)
  | .fbue a d => some ([3#2, 0#2], false, a, d)
  | .fbge a d => some ([2#2, 0#2], false, a, d)
  | .fbuge a d => some ([3#2, 2#2, 0#2], false, a, d)
  | .fble a d => some ([1#2, 0#2], false, a, d)
  | .fbule a d => some ([3#2, 1#2, 0#2], false, a, d)
  | .fbo a d => some ([1#2, 2#2, 0#2], false, a, d)
  | _ => none

/-- As fccBranch for the CBccc instructions and the condition of the coprocessor (R346). -/
def cccBranch : Instr → Option (List (BitVec 2) × Bool × Bool × BitVec 22)
  | .cbn a d => some ([], false, a, d)
  | .cb123 a d => some ([1#2, 2#2, 3#2], false, a, d)
  | .cb12 a d => some ([1#2, 2#2], false, a, d)
  | .cb13 a d => some ([1#2, 3#2], false, a, d)
  | .cb1 a d => some ([1#2], false, a, d)
  | .cb23 a d => some ([2#2, 3#2], false, a, d)
  | .cb2 a d => some ([2#2], false, a, d)
  | .cb3 a d => some ([3#2], false, a, d)
  | .cba a d => some ([0#2, 1#2, 2#2, 3#2], true, a, d)
  | .cb0 a d => some ([0#2], false, a, d)
  | .cb03 a d => some ([0#2, 3#2], false, a, d)
  | .cb02 a d => some ([0#2, 2#2], false, a, d)
  | .cb023 a d => some ([0#2, 2#2, 3#2], false, a, d)
  | .cb01 a d => some ([0#2, 1#2], false, a, d)
  | .cb013 a d => some ([0#2, 1#2, 3#2], false, a, d)
  | .cb012 a d => some ([0#2, 1#2, 2#2], false, a, d)
  | _ => none

/-- The FPops: the operation of R458 and rd, rs1, rs2. -/
def fpopOf : Instr → Option (FpOp × RegNum × RegNum × RegNum)
  | .fmovs rd rs1 rs2 => some (.fmovs, rd, rs1, rs2)
  | .fnegs rd rs1 rs2 => some (.fnegs, rd, rs1, rs2)
  | .fabss rd rs1 rs2 => some (.fabss, rd, rs1, rs2)
  | .fsqrts rd rs1 rs2 => some (.fsqrts, rd, rs1, rs2)
  | .fsqrtd rd rs1 rs2 => some (.fsqrtd, rd, rs1, rs2)
  | .fsqrtq rd rs1 rs2 => some (.fsqrtq, rd, rs1, rs2)
  | .fadds rd rs1 rs2 => some (.fadds, rd, rs1, rs2)
  | .faddd rd rs1 rs2 => some (.faddd, rd, rs1, rs2)
  | .faddq rd rs1 rs2 => some (.faddq, rd, rs1, rs2)
  | .fsubs rd rs1 rs2 => some (.fsubs, rd, rs1, rs2)
  | .fsubd rd rs1 rs2 => some (.fsubd, rd, rs1, rs2)
  | .fsubq rd rs1 rs2 => some (.fsubq, rd, rs1, rs2)
  | .fmuls rd rs1 rs2 => some (.fmuls, rd, rs1, rs2)
  | .fmuld rd rs1 rs2 => some (.fmuld, rd, rs1, rs2)
  | .fmulq rd rs1 rs2 => some (.fmulq, rd, rs1, rs2)
  | .fdivs rd rs1 rs2 => some (.fdivs, rd, rs1, rs2)
  | .fdivd rd rs1 rs2 => some (.fdivd, rd, rs1, rs2)
  | .fdivq rd rs1 rs2 => some (.fdivq, rd, rs1, rs2)
  | .fsmuld rd rs1 rs2 => some (.fsmuld, rd, rs1, rs2)
  | .fdmulq rd rs1 rs2 => some (.fdmulq, rd, rs1, rs2)
  | .fitos rd rs1 rs2 => some (.fitos, rd, rs1, rs2)
  | .fitod rd rs1 rs2 => some (.fitod, rd, rs1, rs2)
  | .fitoq rd rs1 rs2 => some (.fitoq, rd, rs1, rs2)
  | .fstoi rd rs1 rs2 => some (.fstoi, rd, rs1, rs2)
  | .fdtoi rd rs1 rs2 => some (.fdtoi, rd, rs1, rs2)
  | .fqtoi rd rs1 rs2 => some (.fqtoi, rd, rs1, rs2)
  | .fstod rd rs1 rs2 => some (.fstod, rd, rs1, rs2)
  | .fstoq rd rs1 rs2 => some (.fstoq, rd, rs1, rs2)
  | .fdtos rd rs1 rs2 => some (.fdtos, rd, rs1, rs2)
  | .fdtoq rd rs1 rs2 => some (.fdtoq, rd, rs1, rs2)
  | .fqtos rd rs1 rs2 => some (.fqtos, rd, rs1, rs2)
  | .fqtod rd rs1 rs2 => some (.fqtod, rd, rs1, rs2)
  | .fcmps rd rs1 rs2 => some (.fcmps, rd, rs1, rs2)
  | .fcmpd rd rs1 rs2 => some (.fcmpd, rd, rs1, rs2)
  | .fcmpq rd rs1 rs2 => some (.fcmpq, rd, rs1, rs2)
  | .fcmpes rd rs1 rs2 => some (.fcmpes, rd, rs1, rs2)
  | .fcmped rd rs1 rs2 => some (.fcmped, rd, rs1, rs2)
  | .fcmpeq rd rs1 rs2 => some (.fcmpeq, rd, rs1, rs2)
  | _ => none

/-- The floating-point instructions (R505). -/
def isFloating (i : Instr) : Bool := (fpAccessOf i).isSome || (fccBranch i).isSome || (fpopOf i).isSome

/-- CPop1 and CPop2: the whole word that the coprocessor gets (R460, R461). -/
def cpopWord : Instr → Option Word
  | .cpop1 rd rs1 opc rs2 => some (0b10#2 ++ rd ++ 0b110110#6 ++ rs1 ++ opc ++ rs2)
  | .cpop2 rd rs1 opc rs2 => some (0b10#2 ++ rd ++ 0b110111#6 ++ rs1 ++ opc ++ rs2)
  | _ => none

/-- The coprocessor instructions (R505). -/
def isCoprocessor (i : Instr) : Bool := (cpAccessOf i).isSome || (cccBranch i).isSome || (cpopWord i).isSome

/-- The coprocessor loads, whose traps leave the state of the coprocessor to its implementation (R215 to R217). -/
def isCpLoad : Instr → Bool
  | .ldc .. | .lddc .. | .ldcsr .. => true
  | _ => false

/-! ### Effects by family -/

/-- The state after a branch (R342): the whole of it. -/
def branched (taken always a : Bool) (disp22 : BitVec 22) (s : State) : State :=
  { s with
    pc := s.npc
    npc := if taken then s.pc + 4#32 * disp22.signExtend 32 else s.npc + 4#32
    annul := if a && (always || !taken) then true else s.annul
    delays := s.delays.tick }

/-- A call or a jump (R348, R349): the link register, the delayed transfer, and nothing else. -/
structure LinkEffect (rd : RegNum) (target : Word) (s t : State) : Prop where
  regs : RegWritten s.psr.cwp rd s.pc s t
  psr : t.psr = s.psr
  y : t.y = s.y
  special : SpecialSame s t
  units : UnitsSame s t
  memory : MemorySame s t
  pc : t.pc = s.npc
  npc : t.npc = target
  settled : Settled t

/-- SAVE or RESTORE that completes (R350, R351): CWP, and r[rd] of the new window. -/
structure WindowMoved (ncwp : WindowNum) (rd : RegNum) (v : Word) (s t : State) : Prop where
  regs : RegWritten ncwp rd v s t
  psr : t.psr = { s.psr with cwp := ncwp }
  y : t.y = s.y
  special : SpecialSame s t
  units : UnitsSame s t
  memory : MemorySame s t
  advanced : Advanced s t
  settled : Settled t

/-- A store that completes: its bytes, and nothing else. -/
structure Stored (asi : Asi) (ea : Word) (bytes : List Byte) (s t : State) : Prop where
  quiet : QuietEffect s t
  units : UnitsSame s t
  memory : BytesStored asi ea bytes s t

/-- An atomic load-store that completes: r[rd], its bytes, and nothing else (R240). -/
structure AtomicEffect (rd : RegNum) (v : Word) (asi : Asi) (ea : Word) (bytes : List Byte) (s t : State) : Prop where
  regs : RegWritten s.psr.cwp rd v s t
  psr : t.psr = s.psr
  y : t.y = s.y
  wim : t.wim = s.wim
  tbr : t.tbr = s.tbr
  iccr : t.iccr = s.iccr
  diag : t.diag = s.diag
  annul : t.annul = s.annul
  mode : t.mode = s.mode
  busLock : t.busLock = false
  inputs : t.inputs = s.inputs
  cfg : t.cfg = s.cfg
  units : UnitsSame s t
  memory : BytesStored asi ea bytes s t
  advanced : Advanced s t
  settled : Settled t

/-- A floating-point load that completes: the f registers and the FSR as given, and nothing else (R205 to R207). -/
structure FpLoaded (f : RegNum → Word) (fsr : Fsr) (s t : State) : Prop where
  registers : ∀ n, readF n t = f n
  fsr : t.fpu.fsr = fsr
  queue : t.fpu.queue = s.fpu.queue
  mode : t.fpu.mode = s.fpu.mode
  quiet : QuietEffect s t
  cp : t.cp = s.cp
  memory : MemorySame s t

/-- A coprocessor load that completes: the c registers and the CSR as given, and nothing else (R215 to R217). -/
structure CpLoaded (c : RegNum → Word) (csr : Word) (s t : State) : Prop where
  registers : ∀ n, readC n t = c n
  csr : t.cp.csr = csr
  ccc : t.cp.ccc = s.cp.ccc
  queue : t.cp.queue = s.cp.queue
  pending : t.cp.pending = s.cp.pending
  quiet : QuietEffect s t
  fpu : t.fpu = s.fpu
  memory : MemorySame s t

/-- What user mode may change of the registers of the IU besides r registers, pc, npc, annul and Y: icc and CWP (R41). -/
structure Confined (s t : State) : Prop where
  psr : t.psr = { s.psr with icc := t.psr.icc, cwp := t.psr.cwp }
  wim : t.wim = s.wim
  tbr : t.tbr = s.tbr
  iccr : t.iccr = s.iccr
  diag : t.diag = s.diag
  mode : t.mode = s.mode

/-- The machine left user mode for the handler of the trap whose code tt now holds (R520). -/
structure HandlerEntered (s t : State) : Prop where
  supervisor : t.psr.s = true
  et : t.psr.et = false
  ps : t.psr.ps = s.psr.s
  cwp : t.psr.cwp = s.psr.cwp - 1#3
  tba : t.tbr.tba = s.tbr.tba
  pc : t.pc = vectorAddress s.tbr.tba t.tbr.tt
  wim : t.wim = s.wim
  iccr : t.iccr = s.iccr
  diag : t.diag = s.diag
  mode : t.mode = s.mode

/-- The instructions that write icc (R36). -/
def writesIcc : Instr → Bool
  | .addcc .. | .andcc .. | .orcc .. | .xorcc .. | .subcc .. | .andncc .. | .orncc .. | .xnorcc .. | .addxcc ..
  | .umulcc .. | .smulcc .. | .subxcc .. | .udivcc .. | .sdivcc .. | .taddcc .. | .tsubcc .. | .mulscc ..
  | .taddcctv .. | .tsubcctv .. | .wrpsr .. => true
  | .call .. | .unimp .. | .sethi .. | .bn .. | .be .. | .ble .. | .bl .. | .bleu .. | .bcs .. | .bneg ..
  | .bvs .. | .ba .. | .bne .. | .bg .. | .bge .. | .bgu .. | .bcc .. | .bpos .. | .bvc .. | .fbn .. | .fbne ..
  | .fblg .. | .fbul .. | .fbl .. | .fbug .. | .fbg .. | .fbu .. | .fba .. | .fbe .. | .fbue .. | .fbge ..
  | .fbuge .. | .fble .. | .fbule .. | .fbo .. | .cbn .. | .cb123 .. | .cb12 .. | .cb13 .. | .cb1 .. | .cb23 ..
  | .cb2 .. | .cb3 .. | .cba .. | .cb0 .. | .cb03 .. | .cb02 .. | .cb023 .. | .cb01 .. | .cb013 .. | .cb012 ..
  | .add .. | .and .. | .or .. | .xor .. | .sub .. | .andn .. | .orn .. | .xnor .. | .addx .. | .umul ..
  | .smul .. | .subx .. | .udiv .. | .sdiv .. | .sll .. | .srl .. | .sra .. | .rdy .. | .rdasr .. | .rdpsr ..
  | .rdwim .. | .rdtbr .. | .wry .. | .wrasr .. | .wrwim .. | .wrtbr .. | .fmovs .. | .fnegs .. | .fabss ..
  | .fsqrts .. | .fsqrtd .. | .fsqrtq .. | .fadds .. | .faddd .. | .faddq .. | .fsubs .. | .fsubd ..
  | .fsubq .. | .fmuls .. | .fmuld .. | .fmulq .. | .fdivs .. | .fdivd .. | .fdivq .. | .fsmuld .. | .fdmulq ..
  | .fitos .. | .fitod .. | .fitoq .. | .fstoi .. | .fdtoi .. | .fqtoi .. | .fstod .. | .fstoq .. | .fdtos ..
  | .fdtoq .. | .fqtos .. | .fqtod .. | .fcmps .. | .fcmpd .. | .fcmpq .. | .fcmpes .. | .fcmped ..
  | .fcmpeq .. | .cpop1 .. | .cpop2 .. | .jmpl .. | .rett .. | .tn .. | .te .. | .tle .. | .tl .. | .tleu ..
  | .tcs .. | .tneg .. | .tvs .. | .ta .. | .tne .. | .tg .. | .tge .. | .tgu .. | .tcc .. | .tpos .. | .tvc ..
  | .flush .. | .save .. | .restore .. | .ld .. | .ldub .. | .lduh .. | .ldd .. | .st .. | .stb .. | .sth ..
  | .std .. | .ldsb .. | .ldsh .. | .ldstub .. | .swap .. | .ldf .. | .ldfsr .. | .lddf .. | .stf ..
  | .stfsr .. | .stdfq .. | .stdf .. | .ldc .. | .ldcsr .. | .lddc .. | .stc .. | .stcsr .. | .stdcq ..
  | .stdc .. | .lda .. | .lduba .. | .lduha .. | .ldda .. | .sta .. | .stba .. | .stha .. | .stda ..
  | .ldsba .. | .ldsha .. | .ldstuba .. | .swapa .. => false

/-- The instructions that write memory (R89). -/
def writesMemory : Instr → Bool
  | .st .. | .stb .. | .sth .. | .std .. | .ldstub .. | .swap .. | .stf .. | .stfsr .. | .stdfq .. | .stdf ..
  | .stc .. | .stcsr .. | .stdcq .. | .stdc .. | .sta .. | .stba .. | .stha .. | .stda .. | .ldstuba ..
  | .swapa .. => true
  | .call .. | .unimp .. | .sethi .. | .bn .. | .be .. | .ble .. | .bl .. | .bleu .. | .bcs .. | .bneg ..
  | .bvs .. | .ba .. | .bne .. | .bg .. | .bge .. | .bgu .. | .bcc .. | .bpos .. | .bvc .. | .fbn .. | .fbne ..
  | .fblg .. | .fbul .. | .fbl .. | .fbug .. | .fbg .. | .fbu .. | .fba .. | .fbe .. | .fbue .. | .fbge ..
  | .fbuge .. | .fble .. | .fbule .. | .fbo .. | .cbn .. | .cb123 .. | .cb12 .. | .cb13 .. | .cb1 .. | .cb23 ..
  | .cb2 .. | .cb3 .. | .cba .. | .cb0 .. | .cb03 .. | .cb02 .. | .cb023 .. | .cb01 .. | .cb013 .. | .cb012 ..
  | .add .. | .and .. | .or .. | .xor .. | .sub .. | .andn .. | .orn .. | .xnor .. | .addx .. | .umul ..
  | .smul .. | .subx .. | .udiv .. | .sdiv .. | .addcc .. | .andcc .. | .orcc .. | .xorcc .. | .subcc ..
  | .andncc .. | .orncc .. | .xnorcc .. | .addxcc .. | .umulcc .. | .smulcc .. | .subxcc .. | .udivcc ..
  | .sdivcc .. | .taddcc .. | .tsubcc .. | .taddcctv .. | .tsubcctv .. | .mulscc .. | .sll .. | .srl ..
  | .sra .. | .rdy .. | .rdasr .. | .rdpsr .. | .rdwim .. | .rdtbr .. | .wry .. | .wrasr .. | .wrpsr ..
  | .wrwim .. | .wrtbr .. | .fmovs .. | .fnegs .. | .fabss .. | .fsqrts .. | .fsqrtd .. | .fsqrtq ..
  | .fadds .. | .faddd .. | .faddq .. | .fsubs .. | .fsubd .. | .fsubq .. | .fmuls .. | .fmuld .. | .fmulq ..
  | .fdivs .. | .fdivd .. | .fdivq .. | .fsmuld .. | .fdmulq .. | .fitos .. | .fitod .. | .fitoq .. | .fstoi ..
  | .fdtoi .. | .fqtoi .. | .fstod .. | .fstoq .. | .fdtos .. | .fdtoq .. | .fqtos .. | .fqtod .. | .fcmps ..
  | .fcmpd .. | .fcmpq .. | .fcmpes .. | .fcmped .. | .fcmpeq .. | .cpop1 .. | .cpop2 .. | .jmpl .. | .rett ..
  | .tn .. | .te .. | .tle .. | .tl .. | .tleu .. | .tcs .. | .tneg .. | .tvs .. | .ta .. | .tne .. | .tg ..
  | .tge .. | .tgu .. | .tcc .. | .tpos .. | .tvc .. | .flush .. | .save .. | .restore .. | .ld .. | .ldub ..
  | .lduh .. | .ldd .. | .ldsb .. | .ldsh .. | .ldf .. | .ldfsr .. | .lddf .. | .ldc .. | .ldcsr .. | .lddc ..
  | .lda .. | .lduba .. | .lduha .. | .ldda .. | .ldsba .. | .ldsha .. => false

end Sys2Proof.Machine
end

