-- ==== Sys2Proof/Certificates/Slice0/Obligations.lean ====
section
/-! DEFINITION. The statements for the provers, from the numbered rules of spec/. -/

open Sys2Proof Sys2Proof.Machine

/-- Words printed in the spec decode to the instructions they stand for (40_load_store.md sections 2 and 3,
41_fp_cp_load_store.md sections 2 and 3, 43_arith_logical_shift.md sections 2 to 6, R317, R321, R333,
45_control_transfer.md sections 2 to 4, 46_state_registers.md sections 1 and 2, 47_fpop_cpop_misc.md sections 3 and
4). One word or more of each family, each printed in the spec beside its assembler form, decodes to the instruction
with the operands of that form. -/
def Obligations.DecodesSpecWords : Prop :=
  decode 0x94020009#32 = .instr (.add 10#5 8#5 (.reg 9#5)) ∧
  decode 0x90103FFF#32 = .instr (.or 8#5 0#5 (.imm (-1#13))) ∧
  decode 0x932A2003#32 = .instr (.sll 9#5 8#5 (.imm 3#5)) ∧
  decode 0x11048D15#32 = .instr (.sethi 8#5 0x048D15#22) ∧
  decode 0x95220009#32 = .instr (.mulscc 10#5 8#5 (.reg 9#5)) ∧
  decode 0x9472200A#32 = .instr (.udiv 10#5 8#5 (.imm 10#13)) ∧
  decode 0x95120009#32 = .instr (.taddcctv 10#5 8#5 (.reg 9#5)) ∧
  decode 0x32BFFFFD#32 = .instr (.bne true (-3#22)) ∧
  decode 0x1F800004#32 = .instr (.fbo false 4#22) ∧
  decode 0x1BC00004#32 = .instr (.cb01 false 4#22) ∧
  decode 0x7FFFFFFE#32 = .instr (.call (-2#30)) ∧
  decode 0x93C22004#32 = .instr (.jmpl 9#5 8#5 (.imm 4#13)) ∧
  decode 0x9DE3BFA0#32 = .instr (.save 14#5 14#5 (.imm (-96#13))) ∧
  decode 0x81CCA004#32 = .instr (.rett 18#5 (.imm 4#13)) ∧
  decode 0x83D04002#32 = .instr (.te 1#5 (.reg 2#5)) ∧
  decode 0x9147C000#32 = .instr (.rdasr 8#5 31#5) ∧
  decode 0x81822055#32 = .instr (.wry 8#5 (.imm 0x55#13)) ∧
  decode 0xBF820000#32 = .instr (.wrasr 31#5 8#5 (.reg 0#5)) ∧
  decode 0xC6087FFF#32 = .instr (.ldub 3#5 1#5 (.imm (-1#13))) ∧
  decode 0xD43A2008#32 = .instr (.std 10#5 8#5 (.imm 8#13)) ∧
  decode 0xC4884143#32 = .instr (.lduba 2#5 1#5 (.reg 3#5 0x0A#8)) ∧
  decode 0xC91A2008#32 = .instr (.lddf 4#5 8#5 (.imm 8#13)) ∧
  decode 0xC1322000#32 = .instr (.stdfq 8#5 (.imm 0#13)) ∧
  decode 0xC5A22000#32 = .instr (.stc 2#5 8#5 (.imm 0#13)) ∧
  decode 0x99A10828#32 = .instr (.fadds 12#5 4#5 8#5) ∧
  decode 0x81A90A28#32 = .instr (.fcmps 0#5 4#5 8#5) ∧
  decode 0x81B80000#32 = .instr (.cpop2 0#5 0#5 0#9 0#5)

/-- Decoding an encoded well-formed instruction gives it back (R121, R122, R123, R124, 30_encoding.md section 3). For
every well-formed instruction with every value of its operands, the decoder reads the encoder's word as that
instruction, from the word and from its four bytes in big-endian order, and decodeTableWord reads it from the number
of the opcode table. -/
def Obligations.DecodeEncodeAgree : Prop :=
  ∀ i : Instr, i.WellFormed →
    decode (encode i) = .instr i ∧ decodeBytes (bytesOfWord (encode i)) = some (.instr i) ∧
      decodeTableWord 32 (encode i).toNat = some i

/-- The decoder reads only well-formed instructions (30_encoding.md section 3, R382, R392). Whatever word the decoder
reads as an instruction, that instruction is well-formed. -/
def Obligations.DecodedWellFormed : Prop :=
  ∀ (w : Word) (i : Instr), decode w = .instr i → i.WellFormed

/-- Exactly the unassigned op2, op3 and opf values decode to no instruction (30_encoding.md section 3, R128, R133). A
word is unassigned exactly when its op2 (op = 00) or op3 (op = 10, 11) is one that the tables leave out, and an
unimplemented FPop exactly when it is an FPop1 or FPop2 word whose opf the list of R131 does not hold. -/
def Obligations.UnassignedWords : Prop :=
  ∀ w : Word,
    (decode w = .unassigned ↔
      (fieldOp w = 0b00#2 ∧ fieldOp2 w ∈ [0b001#3, 0b011#3, 0b101#3]) ∨
      (fieldOp w = 0b10#2 ∧ fieldOp3 w ∈ [0b001001#6, 0b001101#6, 0b011001#6, 0b011101#6, 0b101100#6, 0b101101#6,
        0b101110#6, 0b101111#6, 0b111110#6, 0b111111#6]) ∨
      (fieldOp w = 0b11#2 ∧ fieldOp3 w ∈ [0b001000#6, 0b001011#6, 0b001100#6, 0b001110#6, 0b011000#6, 0b011011#6,
        0b011100#6, 0b011110#6, 0b100010#6, 0b101000#6, 0b101001#6, 0b101010#6, 0b101011#6, 0b101100#6, 0b101101#6,
        0b101110#6, 0b101111#6, 0b110010#6, 0b111000#6, 0b111001#6, 0b111010#6, 0b111011#6, 0b111100#6, 0b111101#6,
        0b111110#6, 0b111111#6])) ∧
    (decode w = .unimplementedFpop ↔
      (fieldOp w = 0b10#2 ∧ fieldOp3 w = 0b110100#6 ∧ fieldOpf w ∉ [0x001#9, 0x005#9, 0x009#9, 0x029#9, 0x02A#9,
        0x02B#9, 0x041#9, 0x042#9, 0x043#9, 0x045#9, 0x046#9, 0x047#9, 0x049#9, 0x04A#9, 0x04B#9, 0x04D#9, 0x04E#9,
        0x04F#9, 0x069#9, 0x06E#9, 0x0C4#9, 0x0C6#9, 0x0C7#9, 0x0C8#9, 0x0C9#9, 0x0CB#9, 0x0CC#9, 0x0CD#9, 0x0CE#9,
        0x0D1#9, 0x0D2#9, 0x0D3#9]) ∨
      (fieldOp w = 0b10#2 ∧ fieldOp3 w = 0b110101#6 ∧ fieldOpf w ∉ [0x051#9, 0x052#9, 0x053#9, 0x055#9, 0x056#9,
        0x057#9]))

/-- A step crosses the boundary and runs the instruction that it fetches and decodes (00_scope.md section 5, R88, R98,
R592). What a step adds around exec is the boundary: the draw counter advances (log 8), and the environment's next
move, if it has one, sets the inputs and makes the stores of other agents in their order (logs 23 and 32); nothing
else changes there. At a boundary with no reset, not in error mode, no interrupt taken and no annulled slot, when
the four bytes at pc may be fetched and belong to no device, the fetch gives memory's word or, where that word is
possibly stale, one of its recorded older values (which one is free), and the step is exec of the instruction that
the word fetched decodes to; where the word is not possibly stale that is memory's word. -/
def Obligations.StepRunsDecoded : Prop :=
  ∀ (s b : State), b = boundary s →
    (∃ inputs schedule stale mem, b = { s with
      draws := s.draws + 1, inputs := inputs, schedule := schedule, stale := stale, mem := mem }) ∧
    (s.schedule = [] → b = { s with draws := s.draws + 1 }) ∧
    (∀ m rest, s.schedule = m :: rest →
      b = outsideStores m.stores { s with draws := s.draws + 1, inputs := m.inputs, schedule := rest }) ∧
    (b.inputs.resetReq = false → b.mode = .run → interruptTaken b = false → b.annul = false →
      accessOk b.cfg .execute 4 (fetchSpace b) b.pc = true →
      (∀ k < 4, isDevice b.cfg (fetchSpace b) (b.pc + BitVec.ofNat 32 k) = false) →
      (∃ w ∈ readWord (fetchSpace b) b.pc b :: staleValues b.pc b, fetch b = some w ∧
        ∀ i, decode w = .instr i → step s = exec i b) ∧
      (staleValues b.pc b = [] → ∀ i, decode (readWord (fetchSpace b) b.pc b) = .instr i → step s = exec i b))

/-- A refused fetch traps, and so does a word that is no instruction (00_scope.md section 5, R412, R531, R533). At a
boundary where an instruction is to run and no state register is being modified: a fetch that the memory system
refuses raises instruction_access_exception; a word that no encoding assigns raises illegal_instruction; and a word
of an unimplemented FPop, with the FPU ready, completes with the word held in the FQ and ftt = 3. -/
def Obligations.StepRejectsWord : Prop :=
  ∀ (s b : State), b = boundary s → Settled b →
    b.inputs.resetReq = false → b.mode = .run → interruptTaken b = false → b.annul = false →
    (fetch b = none → ∃ t, step s = .next t ∧ TrapOutcome .instructionAccessException b t) ∧
    (∀ w, fetch b = some w → decode w = .unassigned → ∃ t, step s = .next t ∧ TrapOutcome .illegalInstruction b t) ∧
    (∀ w, fetch b = some w → decode w = .unimplementedFpop → FpuReady b →
      ∃ t, step s = .next t ∧ FpopHeld 3#3 w b t ∧ t.fpu.fsr.cexc = b.fpu.fsr.cexc)

/-- A reset request at a step boundary takes the reset trap, whatever ET holds (70_reset_and_hazards.md section 1,
R560). At a boundary with reset_req asserted, or in error mode with ERROR_MODE_RESETS, the step writes S, ET, pc,
npc, annul, the FQ, the FPU mode, every delayed-write window, mode and ICCR as the rule lists, and nothing else. -/
def Obligations.StepTakesReset : Prop :=
  ∀ (s b : State), b = boundary s →
    (b.inputs.resetReq = true ∨ (b.mode = .error ∧ b.cfg.errorModeResets = true)) →
      step s = .next { b with
        psr := { b.psr with s := true, et := false }
        pc := 0#32
        npc := 4#32
        annul := false
        fpu := { b.fpu with queue := [], mode := .execute }
        delays := noDelays
        mode := .run
        iccr := b.cfg.iccrReset }

/-- An interrupt is taken at a step boundary exactly when ET, irl and PIL say so (60_exceptions.md section 2, R512). At
a boundary with no reset asked for, in run mode, with no PSR field being modified: if ET = 1, irl is not 0 and irl
is 15 or above PIL, the step takes interrupt_level_irl with tt = 0x10 + irl; otherwise the step goes on to the
annulled slot or to the instruction. -/
def Obligations.StepTakesInterrupt : Prop :=
  ∀ (s b : State), b = boundary s → Settled b → b.inputs.resetReq = false → b.mode = .run →
    if b.psr.et = true ∧ b.inputs.irl ≠ 0#4 ∧ (b.inputs.irl = 15#4 ∨ b.psr.pil.toNat < b.inputs.irl.toNat) then
      ∃ t, step s = .next t ∧ TrapTaken (.interruptLevel b.inputs.irl) b t ∧
        t.tbr.tt.toNat = 0x10 + b.inputs.irl.toNat
    else if b.annul = true then
      step s = .next { b with pc := b.npc, npc := b.npc + 4#32, annul := false, delays := b.delays.tick }
    else step s = fetchAndExecute b

/-- In error mode nothing executes until a reset is asked for (60_exceptions.md section 3, R591). In error mode with no
reset asked for and without ERROR_MODE_RESETS, a step executes nothing: while the environment has inputs to come the
state changes only by the boundary, and when it has none the run ends in the fault errorMode (log 22). -/
def Obligations.StepInErrorMode : Prop :=
  ∀ (s b : State), b = boundary s → b.mode = .error → b.inputs.resetReq = false → b.cfg.errorModeResets = false →
    (s.schedule ≠ [] → step s = .next b) ∧ (s.schedule = [] → step s = .fault .errorMode)

/-- The state after reset holds the values that the spec gives (10_state.md section 7). Of the fields to which R70 gives
a value: pc, npc, annul, S, ET, the FQ and with it qne, fpu_mode, every wr_delay count, and mode. ICCR holds the
parameter ICCR_RESET; its value and every value R70 calls uninit are the model's (logs 4 and 5) and not part of this
statement. -/
def Obligations.ResetState : Prop :=
  State.reset.pc = 0x00000000#32 ∧ State.reset.npc = 0x00000004#32 ∧ State.reset.annul = false ∧
  State.reset.psr.s = true ∧ State.reset.psr.et = false ∧ State.reset.fpu.queue = [] ∧
  queueNotEmpty State.reset = false ∧ State.reset.fpu.mode = .execute ∧ State.reset.delays = noDelays ∧
  State.reset.mode = .run ∧ State.reset.iccr = State.reset.cfg.iccrReset

/-- r[0] reads as zero and a write to it is discarded (R21). In every window and in every use, r[0] reads as zero, and
writing it leaves the state as it was. -/
def Obligations.RegisterZero : Prop :=
  ∀ (s : State) (slot : Slot) (w : WindowNum) (v : Word),
    readReg slot 0#5 s = 0x00000000#32 ∧ writeReg slot 0#5 v s = s ∧ readRegIn w 0#5 s = 0x00000000#32 ∧
      writeRegIn w 0#5 v s = s

/-- Two register names share a cell exactly when the windows overlap there (10_state.md section 1, R23). The globals are
the same cells in every window; a window register of window w is W[(16w + (i - 8)) mod 128]; and r[i] of window w
and r[j] of window v are one cell exactly when i = j is a global, or w = v and i = j, or one is an in of a window
and the other the out, 16 below it, of the next window. -/
def Obligations.WindowsOverlap : Prop :=
  ∀ (w v : WindowNum) (i j : RegNum),
    (i.toNat < 8 → (physIndex w i).val = i.toNat) ∧
    (8 ≤ i.toNat → (physIndex w i).val = 8 + (16 * w.toNat + (i.toNat - 8)) % 128) ∧
    (physIndex w i = physIndex v j ↔
      (i = j ∧ (i.toNat < 8 ∨ w = v)) ∨
      (v = w + 1#3 ∧ 24 ≤ i.toNat ∧ i.toNat = j.toNat + 16) ∨
      (w = v + 1#3 ∧ 24 ≤ j.toNat ∧ j.toNat = i.toNat + 16))

/-- The operands of an instruction are read in the current window, the immediate sign-extended (00_scope.md section 5,
R285). With no PSR field being modified: r[rs1] and r[rs2] are those of window CWP, the immediate is sign-extended,
the effective address is their sum modulo 2^32, and the shift count is the low five bits of r[rs2] or shcnt. -/
def Obligations.OperandsRead : Prop :=
  ∀ (s : State) (rs1 rs2 : RegNum) (k : BitVec 13) (c : BitVec 5), Settled s →
    operand1 rs1 s = readRegIn s.psr.cwp rs1 s ∧ operand2 (.reg rs2) s = readRegIn s.psr.cwp rs2 s ∧
    (operand2 (.imm k) s).toInt = k.toInt ∧
    (∀ op2, (effectiveAddress rs1 op2 s).toNat = ((operand1 rs1 s).toNat + (operand2 op2 s).toNat) % 2 ^ 32) ∧
    alternateAddress rs1 rs2 s = effectiveAddress rs1 (.reg rs2) s ∧
    shiftCount (.reg rs2) s = (readRegIn s.psr.cwp rs2 s).toNat % 32 ∧ shiftCount (.imm c) s = c.toNat

/-- ADD, SUB and their carry and cc forms: the result, the flags and the frame (43_arith_logical_shift.md sections 1 to
3, R251). For every state in which no field is being modified and all operands, ADD, ADDX, SUB, SUBX and their cc
forms complete: r[rd] holds the sum or difference modulo 2^32 (with the carry for the X forms), the plain forms keep
icc, the cc forms set n to bit 31, z to result zero, v to signed overflow of the exact result, c to the carry out or
the borrow; nothing else changes but pc and npc. -/
def Obligations.AddSubtractResults : Prop :=
  ∀ (s : State) (rd rs1 : RegNum) (op2 : RegImm), Settled s →
    let a := operand1 rs1 s
    let b := operand2 op2 s
    let c := if s.psr.icc.c then 1 else 0
    let sum := BitVec.ofNat 32 (a.toNat + b.toNat)
    let sumX := BitVec.ofNat 32 (a.toNat + b.toNat + c)
    let diff := BitVec.ofInt 32 (a.toNat - b.toNat)
    let diffX := BitVec.ofInt 32 (a.toNat - b.toNat - c)
    (∃ t, exec (.add rd rs1 op2) s = .next t ∧ IntegerEffect rd sum s.psr.icc s.y s t) ∧
    (∃ t, exec (.addx rd rs1 op2) s = .next t ∧ IntegerEffect rd sumX s.psr.icc s.y s t) ∧
    (∃ t, exec (.sub rd rs1 op2) s = .next t ∧ IntegerEffect rd diff s.psr.icc s.y s t) ∧
    (∃ t, exec (.subx rd rs1 op2) s = .next t ∧ IntegerEffect rd diffX s.psr.icc s.y s t) ∧
    (∃ t, exec (.addcc rd rs1 op2) s = .next t ∧ IntegerEffect rd sum
      { n := sum.getLsbD 31, z := decide (sum = 0#32), v := !fitsSigned (a.toInt + b.toInt)
        c := decide (2 ^ 32 ≤ a.toNat + b.toNat) } s.y s t) ∧
    (∃ t, exec (.addxcc rd rs1 op2) s = .next t ∧ IntegerEffect rd sumX
      { n := sumX.getLsbD 31, z := decide (sumX = 0#32), v := !fitsSigned (a.toInt + b.toInt + c)
        c := decide (2 ^ 32 ≤ a.toNat + b.toNat + c) } s.y s t) ∧
    (∃ t, exec (.subcc rd rs1 op2) s = .next t ∧ IntegerEffect rd diff
      { n := diff.getLsbD 31, z := decide (diff = 0#32), v := !fitsSigned (a.toInt - b.toInt)
        c := decide (a.toNat < b.toNat) } s.y s t) ∧
    (∃ t, exec (.subxcc rd rs1 op2) s = .next t ∧ IntegerEffect rd diffX
      { n := diffX.getLsbD 31, z := decide (diffX = 0#32), v := !fitsSigned (a.toInt - b.toInt - c)
        c := decide (a.toNat < b.toNat + c) } s.y s t)

/-- The logical instructions: the result, the flags and the frame (43_arith_logical_shift.md section 4, R254). AND,
ANDN, OR, ORN, XOR, XNOR complete with r[rd] the bitwise operation on the operands and icc kept; their cc forms set
n to bit 31, z to result zero, and v and c to 0; nothing else changes but pc and npc. -/
def Obligations.LogicalResults : Prop :=
  ∀ (s : State) (rd rs1 : RegNum) (op2 : RegImm), Settled s →
    let a := operand1 rs1 s
    let b := operand2 op2 s
    let logicFlags : Word → Icc := fun r => { n := r.getLsbD 31, z := decide (r = 0#32), v := false, c := false }
    (∃ t, exec (.and rd rs1 op2) s = .next t ∧ IntegerEffect rd (a &&& b) s.psr.icc s.y s t) ∧
    (∃ t, exec (.andcc rd rs1 op2) s = .next t ∧ IntegerEffect rd (a &&& b) (logicFlags (a &&& b)) s.y s t) ∧
    (∃ t, exec (.andn rd rs1 op2) s = .next t ∧ IntegerEffect rd (a &&& ~~~b) s.psr.icc s.y s t) ∧
    (∃ t, exec (.andncc rd rs1 op2) s = .next t ∧ IntegerEffect rd (a &&& ~~~b) (logicFlags (a &&& ~~~b)) s.y s t) ∧
    (∃ t, exec (.or rd rs1 op2) s = .next t ∧ IntegerEffect rd (a ||| b) s.psr.icc s.y s t) ∧
    (∃ t, exec (.orcc rd rs1 op2) s = .next t ∧ IntegerEffect rd (a ||| b) (logicFlags (a ||| b)) s.y s t) ∧
    (∃ t, exec (.orn rd rs1 op2) s = .next t ∧ IntegerEffect rd (a ||| ~~~b) s.psr.icc s.y s t) ∧
    (∃ t, exec (.orncc rd rs1 op2) s = .next t ∧ IntegerEffect rd (a ||| ~~~b) (logicFlags (a ||| ~~~b)) s.y s t) ∧
    (∃ t, exec (.xor rd rs1 op2) s = .next t ∧ IntegerEffect rd (a ^^^ b) s.psr.icc s.y s t) ∧
    (∃ t, exec (.xorcc rd rs1 op2) s = .next t ∧ IntegerEffect rd (a ^^^ b) (logicFlags (a ^^^ b)) s.y s t) ∧
    (∃ t, exec (.xnor rd rs1 op2) s = .next t ∧ IntegerEffect rd (~~~(a ^^^ b)) s.psr.icc s.y s t) ∧
    (∃ t, exec (.xnorcc rd rs1 op2) s = .next t ∧ IntegerEffect rd (~~~(a ^^^ b)) (logicFlags (~~~(a ^^^ b))) s.y s t)

/-- The shifts and SETHI: the result as arithmetic, and the frame (43_arith_logical_shift.md sections 5 and 6). SLL
multiplies by 2^count modulo 2^32, SRL divides the unsigned value by 2^count, SRA divides the signed value by
2^count rounding toward minus infinity; SETHI puts imm22 in bits 31:10 and zeros below. None changes icc or anything
else but r[rd], pc and npc. -/
def Obligations.ShiftSethiResults : Prop :=
  ∀ (s : State) (rd rs1 : RegNum) (count : ShiftCount) (imm22 : BitVec 22), Settled s →
    let a := operand1 rs1 s
    let k := shiftCount count s
    (∃ t r, exec (.sll rd rs1 count) s = .next t ∧ IntegerEffect rd r s.psr.icc s.y s t ∧
      r.toNat = a.toNat * 2 ^ k % 2 ^ 32) ∧
    (∃ t r, exec (.srl rd rs1 count) s = .next t ∧ IntegerEffect rd r s.psr.icc s.y s t ∧ r.toNat = a.toNat / 2 ^ k) ∧
    (∃ t r, exec (.sra rd rs1 count) s = .next t ∧ IntegerEffect rd r s.psr.icc s.y s t ∧ r.toInt = a.toInt / 2 ^ k) ∧
    (∃ t r, exec (.sethi rd imm22) s = .next t ∧ IntegerEffect rd r s.psr.icc s.y s t ∧ r.toNat = imm22.toNat * 1024)

/-- The multiplies: Y and r[rd] together hold the exact product (R311, R312, R313, R314, R315). UMUL and UMULcc complete
with Y ++ r[rd] the unsigned product, SMUL and SMULcc with the signed product; the cc forms set n and z from the low
word and v, c to 0; nothing else changes but pc and npc. -/
def Obligations.MultiplyResults : Prop :=
  ∀ (s : State) (rd rs1 : RegNum) (op2 : RegImm), Settled s →
    let a := operand1 rs1 s
    let b := operand2 op2 s
    let flags : Word → Icc := fun r => { n := r.getLsbD 31, z := decide (r = 0#32), v := false, c := false }
    (∃ (t : State) (y lo : Word), (y ++ lo : BitVec 64).toNat = a.toNat * b.toNat ∧
      exec (.umul rd rs1 op2) s = .next t ∧ IntegerEffect rd lo s.psr.icc y s t) ∧
    (∃ (t : State) (y lo : Word), (y ++ lo : BitVec 64).toNat = a.toNat * b.toNat ∧
      exec (.umulcc rd rs1 op2) s = .next t ∧ IntegerEffect rd lo (flags lo) y s t) ∧
    (∃ (t : State) (y lo : Word), (y ++ lo : BitVec 64).toInt = a.toInt * b.toInt ∧
      exec (.smul rd rs1 op2) s = .next t ∧ IntegerEffect rd lo s.psr.icc y s t) ∧
    (∃ (t : State) (y lo : Word), (y ++ lo : BitVec 64).toInt = a.toInt * b.toInt ∧
      exec (.smulcc rd rs1 op2) s = .next t ∧ IntegerEffect rd lo (flags lo) y s t)

/-- A signed product fits a word exactly when Y repeats the sign of the low word (R316, R311). After SMUL with rd not 0,
the exact signed product fits in 32 bits if and only if Y is 0 with bit 31 of r[rd] 0, or all ones with bit 31 of
r[rd] 1. -/
def Obligations.SignedProductFits : Prop :=
  ∀ (s : State) (rd rs1 : RegNum) (op2 : RegImm), Settled s → rd ≠ 0#5 →
    ∃ t, exec (.smul rd rs1 op2) s = .next t ∧
      (fitsSigned ((operand1 rs1 s).toInt * (operand2 op2 s).toInt) = true ↔
        t.y = if (readRegIn t.psr.cwp rd t).getLsbD 31 then 0xFFFFFFFF#32 else 0#32)

/-- MULScc: one step of a multiplication (R317). MULScc shifts r[rs1] right with n xor v coming in, adds operand2 when
Y[0] = 1, shifts Y right with r[rs1][0] coming in, and sets icc by the addition; nothing else changes but pc and
npc. -/
def Obligations.MultiplyStepResult : Prop :=
  ∀ (s : State) (rd rs1 : RegNum) (op2 : RegImm), Settled s →
    let a := operand1 rs1 s
    let x := BitVec.ofNat 32 (a.toNat / 2 + if s.psr.icc.n ≠ s.psr.icc.v then 2 ^ 31 else 0)
    let b := if s.y.toNat % 2 = 0 then 0#32 else operand2 op2 s
    let r := x + b
    ∃ t, exec (.mulscc rd rs1 op2) s = .next t ∧
      IntegerEffect rd r
        { n := r.getLsbD 31, z := decide (r = 0#32), v := !fitsSigned (x.toInt + b.toInt)
          c := decide (2 ^ 32 ≤ x.toNat + b.toNat) }
        (BitVec.ofNat 32 (s.y.toNat / 2 + if a.toNat % 2 = 1 then 2 ^ 31 else 0)) s t

/-- The divides: the quotient, clamped on overflow, with Y left open (R320, R321, R322, R323, R324). With a nonzero
divisor, UDIV and SDIV and their cc forms complete: r[rd] is the quotient of Y ++ r[rs1], rounded toward zero and
clamped to the nearest representable value on overflow, the cc forms set n and z from the value written, v to
overflow and c to 0; nothing else changes but Y, of which nothing is said (a free value, log 19), pc and npc.
Unsigned overflow is exactly Y >= divisor. -/
def Obligations.DivideResults : Prop :=
  ∀ (s : State) (rd rs1 : RegNum) (op2 : RegImm), Settled s → operand2 op2 s ≠ 0#32 →
    let a := operand1 rs1 s
    let b := operand2 op2 s
    let u : Nat := (s.y.toNat * 2 ^ 32 + a.toNat) / b.toNat
    let q : Int := (s.y ++ a : BitVec 64).toInt.tdiv b.toInt
    (∃ (t : State) (r y : Word), r.toNat = min u (2 ^ 32 - 1) ∧
      exec (.udiv rd rs1 op2) s = .next t ∧ IntegerEffect rd r s.psr.icc y s t) ∧
    (∃ (t : State) (r y : Word), r.toNat = min u (2 ^ 32 - 1) ∧
      exec (.udivcc rd rs1 op2) s = .next t ∧ IntegerEffect rd r
        { n := r.getLsbD 31, z := decide (r = 0#32), v := decide (b.toNat ≤ s.y.toNat), c := false } y s t) ∧
    (∃ (t : State) (r y : Word), r.toInt = max (-(2 ^ 31)) (min q (2 ^ 31 - 1)) ∧
      exec (.sdiv rd rs1 op2) s = .next t ∧ IntegerEffect rd r s.psr.icc y s t) ∧
    (∃ (t : State) (r y : Word), r.toInt = max (-(2 ^ 31)) (min q (2 ^ 31 - 1)) ∧
      exec (.sdivcc rd rs1 op2) s = .next t ∧ IntegerEffect rd r
        { n := r.getLsbD 31, z := decide (r = 0#32), v := !fitsSigned q, c := false } y s t)

/-- Tagged arithmetic: a nonzero tag counts as overflow, and the TV forms complete without one (R330, R331, R332, R333,
R334). TADDcc and TSUBcc complete with the sum or difference and with v set on signed overflow or a nonzero tag in
either operand; TADDccTV and TSUBccTV complete in the same way with v = 0 when there is neither; nothing else
changes but pc and npc. -/
def Obligations.TaggedResults : Prop :=
  ∀ (s : State) (rd rs1 : RegNum) (op2 : RegImm), Settled s →
    let a := operand1 rs1 s
    let b := operand2 op2 s
    let tag : Bool := decide (a.toNat % 4 ≠ 0 ∨ b.toNat % 4 ≠ 0)
    let addV : Bool := tag || !fitsSigned (a.toInt + b.toInt)
    let subV : Bool := tag || !fitsSigned (a.toInt - b.toInt)
    let addFlags : Bool → Icc := fun v =>
      { n := (a + b).getLsbD 31, z := decide (a + b = 0#32), v := v, c := decide (2 ^ 32 ≤ a.toNat + b.toNat) }
    let subFlags : Bool → Icc := fun v =>
      { n := (a - b).getLsbD 31, z := decide (a - b = 0#32), v := v, c := decide (a.toNat < b.toNat) }
    (∃ t, exec (.taddcc rd rs1 op2) s = .next t ∧ IntegerEffect rd (a + b) (addFlags addV) s.y s t) ∧
    (∃ t, exec (.tsubcc rd rs1 op2) s = .next t ∧ IntegerEffect rd (a - b) (subFlags subV) s.y s t) ∧
    (addV = false →
      ∃ t, exec (.taddcctv rd rs1 op2) s = .next t ∧ IntegerEffect rd (a + b) (addFlags false) s.y s t) ∧
    (subV = false →
      ∃ t, exec (.tsubcctv rd rs1 op2) s = .next t ∧ IntegerEffect rd (a - b) (subFlags false) s.y s t)

/-- A zero divisor, a tagged overflow and an invalid window trap, and nothing is written (R320, R333, R334, R350, R351,
R537, R538, R543, R544). A divide whose divisor is zero raises division_by_zero; TADDccTV and TSUBccTV raise
tag_overflow on a nonzero tag or signed overflow; SAVE raises window_overflow and RESTORE window_underflow when the
WIM bit of the new window is set. The trap is taken with ET = 1, and leads to error mode with ET = 0; r[rd], icc, Y
and CWP are as the trap finds them. -/
def Obligations.ValueAndWindowTraps : Prop :=
  ∀ (s : State) (rd rs1 : RegNum) (op2 : RegImm), Settled s →
    let a := operand1 rs1 s
    let b := operand2 op2 s
    (b = 0#32 → ∀ i ∈ [Instr.udiv rd rs1 op2, .udivcc rd rs1 op2, .sdiv rd rs1 op2, .sdivcc rd rs1 op2],
      Raises .divisionByZero i s) ∧
    (a.toNat % 4 ≠ 0 ∨ b.toNat % 4 ≠ 0 ∨ fitsSigned (a.toInt + b.toInt) = false →
      Raises .tagOverflow (.taddcctv rd rs1 op2) s) ∧
    (a.toNat % 4 ≠ 0 ∨ b.toNat % 4 ≠ 0 ∨ fitsSigned (a.toInt - b.toInt) = false →
      Raises .tagOverflow (.tsubcctv rd rs1 op2) s) ∧
    (s.wim.getLsbD (s.psr.cwp - 1#3).toNat = true → Raises .windowOverflow (.save rd rs1 op2) s) ∧
    (s.wim.getLsbD (s.psr.cwp + 1#3).toNat = true → Raises .windowUnderflow (.restore rd rs1 op2) s)

/-- After SUBcc the conditions of the branches are the signed and unsigned comparisons (R344, R341, R253). After subcc
a, b, r[0], the condition equal holds exactly when a = b, the signed conditions exactly when the signed comparison
holds, and the unsigned ones exactly when the unsigned comparison holds. -/
def Obligations.CompareConditions : Prop :=
  ∀ (s : State) (rs1 : RegNum) (op2 : RegImm), Settled s →
    let a := operand1 rs1 s
    let b := operand2 op2 s
    ∃ t, exec (.subcc 0#5 rs1 op2) s = .next t ∧
      evalIcc 0b0001#4 t.psr.icc = decide (a = b) ∧
      evalIcc 0b1001#4 t.psr.icc = decide (a ≠ b) ∧
      evalIcc 0b0011#4 t.psr.icc = decide (a.toInt < b.toInt) ∧
      evalIcc 0b0010#4 t.psr.icc = decide (a.toInt ≤ b.toInt) ∧
      evalIcc 0b1010#4 t.psr.icc = decide (b.toInt < a.toInt) ∧
      evalIcc 0b1011#4 t.psr.icc = decide (b.toInt ≤ a.toInt) ∧
      evalIcc 0b0101#4 t.psr.icc = decide (a.toNat < b.toNat) ∧
      evalIcc 0b0100#4 t.psr.icc = decide (a.toNat ≤ b.toNat) ∧
      evalIcc 0b1100#4 t.psr.icc = decide (b.toNat < a.toNat) ∧
      evalIcc 0b1101#4 t.psr.icc = decide (b.toNat ≤ a.toNat)

/-- The integer loads: what r[rd] receives, and the frame (40_load_store.md sections 1 and 2, R84, R89). With no field
being modified and the access aligned and permitted, LD, LDUB, LDSB, LDUH, LDSH complete with the bytes at the
address, most significant first, zero- or sign-extended in r[rd], and LDD (an rd that names a pair) with the two
words in the even and the odd register; nothing else changes but pc and npc. A byte that belongs to no device is
memory's. -/
def Obligations.LoadResults : Prop :=
  ∀ (s : State) (rd rs1 : RegNum) (op2 : RegImm), Settled s →
    let ea := effectiveAddress rs1 op2 s
    let asi := modeDataSpace s
    let byte : Nat → Byte := fun k => loadByte false asi (ea + BitVec.ofNat 32 k) s
    (AccessPermitted .read 4 asi ea s → ∃ t, exec (.ld rd rs1 op2) s = .next t ∧
      IntegerEffect rd (byte 0 ++ byte 1 ++ byte 2 ++ byte 3) s.psr.icc s.y s t) ∧
    (AccessPermitted .read 1 asi ea s → ∃ t, exec (.ldub rd rs1 op2) s = .next t ∧
      IntegerEffect rd ((byte 0).zeroExtend 32) s.psr.icc s.y s t) ∧
    (AccessPermitted .read 1 asi ea s → ∃ t, exec (.ldsb rd rs1 op2) s = .next t ∧
      IntegerEffect rd ((byte 0).signExtend 32) s.psr.icc s.y s t) ∧
    (AccessPermitted .read 2 asi ea s → ∃ t, exec (.lduh rd rs1 op2) s = .next t ∧
      IntegerEffect rd ((byte 0 ++ byte 1 : BitVec 16).zeroExtend 32) s.psr.icc s.y s t) ∧
    (AccessPermitted .read 2 asi ea s → ∃ t, exec (.ldsh rd rs1 op2) s = .next t ∧
      IntegerEffect rd ((byte 0 ++ byte 1 : BitVec 16).signExtend 32) s.psr.icc s.y s t) ∧
    (AccessPermitted .read 8 asi ea s → PairNumber rd s → ∃ t, exec (.ldd rd rs1 op2) s = .next t ∧
      PairEffect rd (byte 0 ++ byte 1 ++ byte 2 ++ byte 3) (byte 4 ++ byte 5 ++ byte 6 ++ byte 7) s t) ∧
    (∀ k, isDevice s.cfg asi (ea + BitVec.ofNat 32 k) = false →
      byte k = readByte asi (ea + BitVec.ofNat 32 k) s)

/-- The alternate-space loads in supervisor mode: what r[rd] receives, and the frame (40_load_store.md sections 1 and 2,
R162). As LoadResults for LDA, LDUBA, LDSBA, LDUHA, LDSHA and LDDA with i = 0 in supervisor mode, in the address
space that the asi field names. -/
def Obligations.AlternateLoadResults : Prop :=
  ∀ (s : State) (rd rs1 rs2 : RegNum) (asi : Asi), Settled s → s.psr.s = true →
    let ea := alternateAddress rs1 rs2 s
    let byte : Nat → Byte := fun k => loadByte false asi (ea + BitVec.ofNat 32 k) s
    (AccessPermitted .read 4 asi ea s → ∃ t, exec (.lda rd rs1 (.reg rs2 asi)) s = .next t ∧
      IntegerEffect rd (byte 0 ++ byte 1 ++ byte 2 ++ byte 3) s.psr.icc s.y s t) ∧
    (AccessPermitted .read 1 asi ea s → ∃ t, exec (.lduba rd rs1 (.reg rs2 asi)) s = .next t ∧
      IntegerEffect rd ((byte 0).zeroExtend 32) s.psr.icc s.y s t) ∧
    (AccessPermitted .read 1 asi ea s → ∃ t, exec (.ldsba rd rs1 (.reg rs2 asi)) s = .next t ∧
      IntegerEffect rd ((byte 0).signExtend 32) s.psr.icc s.y s t) ∧
    (AccessPermitted .read 2 asi ea s → ∃ t, exec (.lduha rd rs1 (.reg rs2 asi)) s = .next t ∧
      IntegerEffect rd ((byte 0 ++ byte 1 : BitVec 16).zeroExtend 32) s.psr.icc s.y s t) ∧
    (AccessPermitted .read 2 asi ea s → ∃ t, exec (.ldsha rd rs1 (.reg rs2 asi)) s = .next t ∧
      IntegerEffect rd ((byte 0 ++ byte 1 : BitVec 16).signExtend 32) s.psr.icc s.y s t) ∧
    (AccessPermitted .read 8 asi ea s → PairNumber rd s → ∃ t, exec (.ldda rd rs1 (.reg rs2 asi)) s = .next t ∧
      PairEffect rd (byte 0 ++ byte 1 ++ byte 2 ++ byte 3) (byte 4 ++ byte 5 ++ byte 6 ++ byte 7) s t)

/-- The integer stores: the bytes written, and every other byte as before (40_load_store.md sections 1 and 3, R84, R89,
R98). With no field being modified, memory in canonical form and the access aligned and permitted, ST, STH, STB and
STD (an rd that names a pair) complete with the low bytes of the source at the effective address, most significant
first; every byte outside reads as before (a byte of a device is not memory's and stays, log 20), an instruction
word that the store changes may from now on be fetched at its older value as well and no other word may (R98, log
21), and no register changes but pc and npc. -/
def Obligations.StoreEffects : Prop :=
  ∀ (s : State) (rd rs1 : RegNum) (op2 : RegImm), Settled s → MemoryCanonical s →
    let ea := effectiveAddress rs1 op2 s
    let asi := modeDataSpace s
    let v := readRegIn s.psr.cwp rd s
    let hi := readRegIn s.psr.cwp (pairEven rd) s
    let lo := readRegIn s.psr.cwp (pairOdd rd) s
    (AccessPermitted .write 4 asi ea s →
      ∃ t, exec (.st rd rs1 op2) s = .next t ∧ Stored asi ea (bytesOfWord v) s t) ∧
    (AccessPermitted .write 2 asi ea s →
      ∃ t, exec (.sth rd rs1 op2) s = .next t ∧ Stored asi ea ((bytesOfWord v).drop 2) s t) ∧
    (AccessPermitted .write 1 asi ea s →
      ∃ t, exec (.stb rd rs1 op2) s = .next t ∧ Stored asi ea ((bytesOfWord v).drop 3) s t) ∧
    (AccessPermitted .write 8 asi ea s → PairNumber rd s →
      ∃ t, exec (.std rd rs1 op2) s = .next t ∧ Stored asi ea (bytesOfWord hi ++ bytesOfWord lo) s t)

/-- The alternate-space stores in supervisor mode: the bytes written, and every other byte as before (40_load_store.md
sections 1 and 3, R162, R98). As StoreEffects for STA, STHA, STBA and STDA with i = 0 in supervisor mode, in the
address space that the asi field names; a space outside 0x08 to 0x0B holds no instruction word. -/
def Obligations.AlternateStoreEffects : Prop :=
  ∀ (s : State) (rd rs1 rs2 : RegNum) (asi : Asi), Settled s → MemoryCanonical s → s.psr.s = true →
    let ea := alternateAddress rs1 rs2 s
    let v := readRegIn s.psr.cwp rd s
    let hi := readRegIn s.psr.cwp (pairEven rd) s
    let lo := readRegIn s.psr.cwp (pairOdd rd) s
    (AccessPermitted .write 4 asi ea s →
      ∃ t, exec (.sta rd rs1 (.reg rs2 asi)) s = .next t ∧ Stored asi ea (bytesOfWord v) s t) ∧
    (AccessPermitted .write 2 asi ea s →
      ∃ t, exec (.stha rd rs1 (.reg rs2 asi)) s = .next t ∧ Stored asi ea ((bytesOfWord v).drop 2) s t) ∧
    (AccessPermitted .write 1 asi ea s →
      ∃ t, exec (.stba rd rs1 (.reg rs2 asi)) s = .next t ∧ Stored asi ea ((bytesOfWord v).drop 3) s t) ∧
    (AccessPermitted .write 8 asi ea s → PairNumber rd s →
      ∃ t, exec (.stda rd rs1 (.reg rs2 asi)) s = .next t ∧ Stored asi ea (bytesOfWord hi ++ bytesOfWord lo) s t)

/-- LDSTUB and SWAP: the old value in r[rd], the new one in memory, the bus free again (R240, R241, R242, R243, R244,
R245, R98). With the access aligned and permitted as an atomic one, LDSTUB puts the old byte in r[rd] and 0xFF in
memory, SWAP exchanges r[rd] with the word; LDSTUBA and SWAPA do so in supervisor mode in the space named. Every
other byte and register stays, but pc and npc, a word changed may be fetched at its older value (R98), and no lock
is held after. -/
def Obligations.AtomicEffects : Prop :=
  ∀ (s : State) (rd rs1 rs2 : RegNum) (op2 : RegImm) (asi : Asi), Settled s → MemoryCanonical s →
    let word : Asi → Word → Word := fun space ea => loadByte false space ea s ++ loadByte false space (ea + 1#32) s ++
      loadByte false space (ea + 2#32) s ++ loadByte false space (ea + 3#32) s
    let new := bytesOfWord (readRegIn s.psr.cwp rd s)
    (let ea := effectiveAddress rs1 op2 s
     let dasi := modeDataSpace s
     (AccessPermitted .atomic 1 dasi ea s → ∃ t, exec (.ldstub rd rs1 op2) s = .next t ∧
       AtomicEffect rd ((loadByte false dasi ea s).zeroExtend 32) dasi ea [0xFF#8] s t) ∧
     (AccessPermitted .atomic 4 dasi ea s → ∃ t, exec (.swap rd rs1 op2) s = .next t ∧
       AtomicEffect rd (word dasi ea) dasi ea new s t)) ∧
    (s.psr.s = true →
     let ea := alternateAddress rs1 rs2 s
     (AccessPermitted .atomic 1 asi ea s → ∃ t, exec (.ldstuba rd rs1 (.reg rs2 asi)) s = .next t ∧
       AtomicEffect rd ((loadByte false asi ea s).zeroExtend 32) asi ea [0xFF#8] s t) ∧
     (AccessPermitted .atomic 4 asi ea s → ∃ t, exec (.swapa rd rs1 (.reg rs2 asi)) s = .next t ∧
       AtomicEffect rd (word asi ea) asi ea new s t))

/-- After a store of a word, loads of it as a word, a half-word or a byte return its parts (20_memory.md sections 2 and
6, R84, R98, R592). After ST to ordinary memory, LD of the address, by whatever operands, gives the word stored;
LDUH of the address and of the address + 2 gives its upper and its lower half; LDUB of the address + k gives its
byte k from the most significant one, for every k from 0 to 3. A store by another agent at a step boundary (the
model's form of it, log 32) puts its bytes in memory in the same order, leaves every other byte, and may leave an
older word to be fetched. -/
def Obligations.StoreThenLoad : Prop :=
  (∀ (s : State) (rd rs1 : RegNum) (op2 : RegImm), Settled s → MemoryCanonical s →
    let ea := effectiveAddress rs1 op2 s
    let asi := modeDataSpace s
    let w := readRegIn s.psr.cwp rd s
    AccessPermitted .write 4 asi ea s → (∀ k < 4, isDevice s.cfg asi (ea + BitVec.ofNat 32 k) = false) →
    ∃ t, exec (.st rd rs1 op2) s = .next t ∧
      ∀ (rd' rs1' : RegNum) (op2' : RegImm), rd' ≠ 0#5 →
        let a := effectiveAddress rs1' op2' t
        (a = ea → accessOk s.cfg .read 4 asi a = true →
          ∃ u, exec (.ld rd' rs1' op2') t = .next u ∧ readRegIn u.psr.cwp rd' u = w) ∧
        (∀ k ∈ [0, 2], a = ea + BitVec.ofNat 32 k → accessOk s.cfg .read 2 asi a = true →
          ∃ u, exec (.lduh rd' rs1' op2') t = .next u ∧
            (readRegIn u.psr.cwp rd' u).toNat = w.toNat / 2 ^ (8 * (2 - k)) % 2 ^ 16) ∧
        (∀ k < 4, a = ea + BitVec.ofNat 32 k → accessOk s.cfg .read 1 asi a = true →
          ∃ u, exec (.ldub rd' rs1' op2') t = .next u ∧
            (readRegIn u.psr.cwp rd' u).toNat = w.toNat / 2 ^ (8 * (3 - k)) % 2 ^ 8)) ∧
  (∀ (s : State) (asi : Asi), MemoryCanonical s →
    (∀ addr v, BytesStored asi addr [v] s (outsideStore (.byte asi addr v) s)) ∧
    (∀ (index : BitVec 31) (v : BitVec 16), BytesStored asi (index ++ 0#1) [v.extractLsb' 8 8, v.extractLsb' 0 8] s
      (outsideStore (.half asi index v) s)) ∧
    (∀ (index : BitVec 30) (v : Word), BytesStored asi (index ++ 0#2) (bytesOfWord v) s
      (outsideStore (.word asi index v) s)))

/-- A misaligned or refused access traps, misalignment first, and nothing is transferred (40_load_store.md section 1,
R85, R503, R201). For every ordinary integer load, store and atomic, for the alternate-space forms with i = 0 in
supervisor mode, and for the floating-point loads and stores with the FPU enabled (STDFQ in supervisor mode): an
address that is no multiple of the size raises memory_address_not_aligned, for a floating-point access whatever the
FPU's mode, so that a pending exception stays pending; an aligned one that the memory system refuses raises
data_access_exception, for a floating-point access where no exception is pending, the queue is not being drained or
the access is a store, and, for STDFQ, the queue holds an entry. -/
def Obligations.AccessTraps : Prop :=
  ∀ (s : State) (i : Instr), Settled s → PairReady i s →
    (∀ kind n rs1 op2, integerAccess i = some (kind, n, rs1, op2) →
      let ea := effectiveAddress rs1 op2 s
      (ea.toNat % n ≠ 0 → Raises .memoryAddressNotAligned i s) ∧
      (ea.toNat % n = 0 → accessOk s.cfg kind n (modeDataSpace s) ea = false → Raises .dataAccessException i s)) ∧
    (∀ kind n rs1 rs2 asi, alternateAccess i = some (kind, n, rs1, .reg rs2 asi) → s.psr.s = true →
      let ea := alternateAddress rs1 rs2 s
      (ea.toNat % n ≠ 0 → Raises .memoryAddressNotAligned i s) ∧
      (ea.toNat % n = 0 → accessOk s.cfg kind n asi ea = false → Raises .dataAccessException i s)) ∧
    (∀ kind n rs1 op2, fpAccessOf i = some (kind, n, rs1, op2) → s.cfg.hasFpu = true → s.psr.ef = true →
      (queueStore i = true → s.psr.s = true) →
      let ea := effectiveAddress rs1 op2 s
      (ea.toNat % n ≠ 0 → Raises .memoryAddressNotAligned i s) ∧
      (ea.toNat % n = 0 → s.fpu.mode ≠ .exceptionPending → (s.fpu.mode = .exception → kind = .write) →
        (queueStore i = true → s.fpu.queue ≠ []) → accessOk s.cfg kind n (modeDataSpace s) ea = false →
        Raises .dataAccessException i s))

/-- Alternate-space forms are privileged and have no immediate; an odd rd does what ODD_RD says (40_load_store.md
section 1, 10_state.md section 1, R533, R216). In user mode an alternate-space form with i = 0 raises
privileged_instruction; one with i = 1 raises illegal_instruction, or privileged_instruction in user mode under
PRIV_BEFORE_ILLEGAL. An odd rd of a doubleword form (the model's reading of ODD_RD, log 6; that it comes before
every other check of the ordinary, floating-point and coprocessor forms under refuse too is the model's choice, log
50; with force_even it completes, as the statements of the effects say): under illegal_instruction it raises that
trap, or privileged_instruction for LDDA and STDA in user mode under PRIV_BEFORE_ILLEGAL; under refuse it is refused
by name, but LDDA and STDA in user mode raise privileged_instruction. With a coprocessor present, LDDC's trap leaves
it in the free state of log 24. -/
def Obligations.FormTraps : Prop :=
  ∀ (s : State), Settled s →
    let first : TrapType :=
      if s.psr.s = false ∧ s.cfg.privBeforeIllegal = true then .privilegedInstruction else .illegalInstruction
    (∀ i kind n rs1 rs2 asi, alternateAccess i = some (kind, n, rs1, .reg rs2 asi) → PairReady i s → s.psr.s = false →
      Raises .privilegedInstruction i s) ∧
    (∀ i kind n rs1 k, alternateAccess i = some (kind, n, rs1, .imm k) → Raises first i s) ∧
    (∀ (rd rs1 rs2 : RegNum) (op2 : RegImm) (asi : Asi), oddNumber rd = true →
      (∀ i ∈ [Instr.ldd rd rs1 op2, .std rd rs1 op2, .lddf rd rs1 op2, .stdf rd rs1 op2, .stdc rd rs1 op2] ++
          (if s.cfg.hasCp then [] else [.lddc rd rs1 op2]),
        (s.cfg.oddRd = .illegalInstruction → Raises .illegalInstruction i s) ∧
        (s.cfg.oddRd = .refuse → exec i s = .refused .oddRegister)) ∧
      (s.cfg.hasCp = true →
        (s.cfg.oddRd = .illegalInstruction → ∃ t, exec (.lddc rd rs1 op2) s = .next t ∧
          TrapOutcome .illegalInstruction { s with cp := Config.cpAfterTrap s.draws s.cp } t) ∧
        (s.cfg.oddRd = .refuse → exec (.lddc rd rs1 op2) s = .refused .oddRegister)) ∧
      (∀ i ∈ [Instr.ldda rd rs1 (.reg rs2 asi), .stda rd rs1 (.reg rs2 asi)],
        (s.cfg.oddRd = .illegalInstruction → Raises first i s) ∧
        (s.cfg.oddRd = .refuse → s.psr.s = true → exec i s = .refused .oddRegister) ∧
        (s.cfg.oddRd = .refuse → s.psr.s = false → Raises .privilegedInstruction i s)))

/-- SAVE and RESTORE move the window; the sum is read in the old one and written in the new (45_control_transfer.md
section 3, R23). When the WIM bit of the new window is clear, SAVE (CWP - 1) and RESTORE (CWP + 1) complete: r[rd]
of the new window is r[rs1] + operand2 of the old one, CWP is the new window, and nothing else changes but pc and
npc. -/
def Obligations.SaveRestoreEffects : Prop :=
  ∀ (s : State) (rd rs1 : RegNum) (op2 : RegImm), Settled s →
    (s.wim.getLsbD (s.psr.cwp - 1#3).toNat = false → ∃ t, exec (.save rd rs1 op2) s = .next t ∧
      WindowMoved (s.psr.cwp - 1#3) rd (operand1 rs1 s + operand2 op2 s) s t) ∧
    (s.wim.getLsbD (s.psr.cwp + 1#3).toNat = false → ∃ t, exec (.restore rd rs1 op2) s = .next t ∧
      WindowMoved (s.psr.cwp + 1#3) rd (operand1 rs1 s + operand2 op2 s) s t)

/-- The sixteen Bicc: the condition, the target and the annul flag (45_control_transfer.md sections 1 and 2, R342). With
icc not being modified, every Bicc completes: taken by the test of its cond field, npc becomes pc + 4 times disp22
when taken and npc + 4 otherwise, and the annul flag is set when a = 1 and the branch is not taken or is BA; nothing
else changes. -/
def Obligations.BiccEffects : Prop :=
  ∀ (s : State) (i : Instr) (cond : BitVec 4) (a : Bool) (disp22 : BitVec 22), Settled s →
    iccBranch i = some (cond, a, disp22) →
      exec i s = .next (branched (evalIcc cond s.psr.icc) (decide (cond = 0b1000#4)) a disp22 s)

/-- The sixteen FBfcc: taken by fcc, with annulment as for Bicc (45_control_transfer.md section 2, R342). With the FPU
ready, every FBfcc completes: taken when fcc is one of the values its row of the table names, with target and annul
flag as for Bicc; nothing else changes. -/
def Obligations.FbfccEffects : Prop :=
  ∀ (s : State) (i : Instr) (codes : List (BitVec 2)) (always a : Bool) (disp22 : BitVec 22), FpuReady s →
    fccBranch i = some (codes, always, a, disp22) →
      exec i s = .next (branched (decide (s.fpu.fsr.fcc ∈ codes)) always a disp22 s)

/-- The sixteen CBccc with a coprocessor: taken by its condition, with annulment as for Bicc (45_control_transfer.md
section 2, R342). With a coprocessor present, enabled and holding no exception, every CBccc completes: taken when
the condition is one of the values its row of the table names, with target and annul flag as for Bicc; nothing else
changes. -/
def Obligations.CbcccEffects : Prop :=
  ∀ (s : State) (i : Instr) (codes : List (BitVec 2)) (always a : Bool) (disp22 : BitVec 22), CpReady s →
    cccBranch i = some (codes, always, a, disp22) →
      exec i s = .next (branched (decide (s.cp.ccc ∈ codes)) always a disp22 s)

/-- CALL and JMPL link and jump after the delay instruction; a misaligned JMPL traps (45_control_transfer.md sections 2
and 3). CALL puts its own address in r[15] and its target is pc + 4 times disp30; JMPL puts its address in r[rd] and
jumps to r[rs1] + operand2, read before the write, or raises memory_address_not_aligned when that is no multiple of
4; nothing else changes. -/
def Obligations.CallJmplEffects : Prop :=
  ∀ (s : State) (rd rs1 : RegNum) (op2 : RegImm) (disp30 : BitVec 30), Settled s →
    (∃ t, exec (.call disp30) s = .next t ∧ LinkEffect 15#5 (s.pc + 4#32 * disp30.zeroExtend 32) s t) ∧
    (let target := operand1 rs1 s + operand2 op2 s
     (target.toNat % 4 = 0 → ∃ t, exec (.jmpl rd rs1 op2) s = .next t ∧ LinkEffect rd target s t) ∧
     (target.toNat % 4 ≠ 0 → Raises .memoryAddressNotAligned (.jmpl rd rs1 op2) s))

/-- The sixteen Ticc: the trap with tt = 128 plus the low seven bits of the sum, or nothing (45_control_transfer.md
section 4, R545). With no field being modified, every Ticc whose test holds raises trap_instruction, whose code is
128 plus the sum modulo 128; one whose test fails changes nothing but pc and npc. -/
def Obligations.TiccEffects : Prop :=
  ∀ (s : State) (i : Instr) (cond : BitVec 4) (rs1 : RegNum) (op2 : RegImm), Settled s →
    iccTrap i = some (cond, rs1, op2) →
      if evalIcc cond s.psr.icc then
        ∃ (t : State) (n : BitVec 7), exec i s = .next t ∧ TrapOutcome (.trapInstruction n) s t ∧
          t.tbr.tt.toNat = 128 + ((operand1 rs1 s).toNat + (operand2 op2 s).toNat) % 128
      else exec i s = .next { s with pc := s.npc, npc := s.npc + 4#32, delays := s.delays.tick }

/-- RETT in supervisor mode with traps disabled restores ET, S and CWP and nothing else (45_control_transfer.md section
3, R523). With ET = 0, S = 1, the WIM bit of CWP + 1 clear and an aligned target: ET becomes 1, S becomes PS, CWP
becomes CWP + 1, pc and npc make the delayed transfer, and no other PSR field, r register, special register or byte
of memory changes. -/
def Obligations.RettReturns : Prop :=
  ∀ (s : State) (rs1 : RegNum) (op2 : RegImm), Settled s → s.psr.et = false → s.psr.s = true →
    s.wim.getLsbD (s.psr.cwp + 1#3).toNat = false → (effectiveAddress rs1 op2 s).toNat % 4 = 0 →
    ∃ t, exec (.rett rs1 op2) s = .next t ∧
      t.psr = { s.psr with et := true, s := s.psr.ps, cwp := s.psr.cwp + 1#3 } ∧
      t.pc = s.npc ∧ t.npc = effectiveAddress rs1 op2 s ∧ t.regs = s.regs ∧ t.y = s.y ∧
      SpecialSame s t ∧ UnitsSame s t ∧ MemorySame s t ∧ Settled t

/-- RETT with traps enabled traps; with traps disabled its three conditions enter error mode in order
(45_control_transfer.md section 3, R525). With ET = 1 RETT raises illegal_instruction, or privileged_instruction in
user mode under PRIV_BEFORE_ILLEGAL. With ET = 0 it enters error mode with tt naming privileged_instruction in user
mode, else window_underflow when the WIM bit is set, else memory_address_not_aligned when the target is misaligned. -/
def Obligations.RettTraps : Prop :=
  ∀ (s : State) (rs1 : RegNum) (op2 : RegImm), Settled s →
    let invalid := s.wim.getLsbD (s.psr.cwp + 1#3).toNat
    let misaligned : Prop := (effectiveAddress rs1 op2 s).toNat % 4 ≠ 0
    let failed : TrapType → Prop := fun T => ∃ t, exec (.rett rs1 op2) s = .next t ∧ ErrorModeEntered T s t
    (s.psr.et = true → Raises
      (if s.psr.s = false ∧ s.cfg.privBeforeIllegal = true then .privilegedInstruction else .illegalInstruction)
      (.rett rs1 op2) s) ∧
    (s.psr.et = false → s.psr.s = false → failed .privilegedInstruction) ∧
    (s.psr.et = false → s.psr.s = true → invalid = true → failed .windowUnderflow) ∧
    (s.psr.et = false → s.psr.s = true → invalid = false → misaligned → failed .memoryAddressNotAligned)

/-- The reads of the state registers, field by field (46_state_registers.md section 1, R40, R45, R46). RDY, and RDASR of
1 to 15 (or of any number when ASR_DECODE = ignore), read Y in either mode; in supervisor mode RDASR of 30 and 31
read DIAG and ICCR, RDPSR the PSR with its fields in the places of R40, RDWIM the eight bits of WIM, RDTBR TBA, tt
and four zeros. Each goes to r[rd] and nothing else changes but pc and npc. -/
def Obligations.StateRegisterReads : Prop :=
  ∀ (s : State) (rd n : RegNum), Settled s →
    (∃ t, exec (.rdy rd) s = .next t ∧ IntegerEffect rd s.y s.psr.icc s.y s t) ∧
    (s.cfg.asrDecode = .ignore ∨ n.toNat < 16 →
      ∃ t, exec (.rdasr rd n) s = .next t ∧ IntegerEffect rd s.y s.psr.icc s.y s t) ∧
    (s.psr.s = true → s.cfg.asrDecode = .table → s.cfg.hasHyperSparcAsr = true →
      (∃ t, exec (.rdasr rd 30#5) s = .next t ∧ IntegerEffect rd s.diag s.psr.icc s.y s t) ∧
      (∃ t, exec (.rdasr rd 31#5) s = .next t ∧ IntegerEffect rd s.iccr s.psr.icc s.y s t)) ∧
    (s.psr.s = true → ∃ (t : State) (v : Word),
      exec (.rdpsr rd) s = .next t ∧ IntegerEffect rd v s.psr.icc s.y s t ∧
      v.extractLsb' 28 4 = s.cfg.psrImpl ∧ v.extractLsb' 24 4 = s.cfg.psrVer ∧ v.getLsbD 23 = s.psr.icc.n ∧
      v.getLsbD 22 = s.psr.icc.z ∧ v.getLsbD 21 = s.psr.icc.v ∧ v.getLsbD 20 = s.psr.icc.c ∧
      v.extractLsb' 14 6 = 0#6 ∧ v.getLsbD 13 = s.psr.ec ∧ v.getLsbD 12 = s.psr.ef ∧
      v.extractLsb' 8 4 = s.psr.pil ∧ v.getLsbD 7 = s.psr.s ∧ v.getLsbD 6 = s.psr.ps ∧ v.getLsbD 5 = s.psr.et ∧
      (v.extractLsb' 0 5).toNat = s.psr.cwp.toNat) ∧
    (s.psr.s = true → ∃ (t : State) (v : Word),
      exec (.rdwim rd) s = .next t ∧ IntegerEffect rd v s.psr.icc s.y s t ∧ v.toNat = s.wim.toNat) ∧
    (s.psr.s = true → ∃ (t : State) (v : Word),
      exec (.rdtbr rd) s = .next t ∧ IntegerEffect rd v s.psr.icc s.y s t ∧
      v.extractLsb' 12 20 = s.tbr.tba ∧ v.extractLsb' 4 8 = s.tbr.tt ∧ v.extractLsb' 0 4 = 0#4)

/-- The writes of the state registers: the value, the delayed-write window, and nothing else (46_state_registers.md
section 2, R570, R571, R572, R573, R575). Each write puts r[rs1] xor operand2 in its register at once and opens the
window of that register with a count of 3 and a mask of the fields that changed; the whole next state is stated.
WRY, and WRASR to Y, run in either mode; WRASR of DIAG and ICCR, WRPSR with an implemented window (and not clearing
EF while the FPU holds an exception), WRWIM and WRTBR run in supervisor mode. -/
def Obligations.StateRegisterWrites : Prop :=
  ∀ (s : State) (n rs1 : RegNum) (op2 : RegImm), Settled s →
    let v := operand1 rs1 s ^^^ operand2 op2 s
    let d := s.delays.tick
    let after : State := { s with pc := s.npc, npc := s.npc + 4#32, delays := d }
    let wroteY : State := { after with y := v, delays := { d with y := { count := 3, masked := decide (s.y ≠ v) } } }
    exec (.wry rs1 op2) s = .next wroteY ∧
    (s.cfg.asrDecode = .ignore ∨ n.toNat < 16 → exec (.wrasr n rs1 op2) s = .next wroteY) ∧
    (s.psr.s = true → s.cfg.asrDecode = .table → s.cfg.hasHyperSparcAsr = true →
      exec (.wrasr 30#5 rs1 op2) s = .next { after with
        diag := v, delays := { d with diag := { count := 3, masked := decide (s.diag ≠ v) } } } ∧
      exec (.wrasr 31#5 rs1 op2) s = .next { after with
        iccr := v
        delays := { d with iccr := { count := 3, masked := decide (s.iccr ≠ v)
                                     ftd := decide (s.iccr.getLsbD s.cfg.iccrFtdBit.val ≠ v.getLsbD s.cfg.iccrFtdBit.val) } } }) ∧
    (s.psr.s = true → (v.extractLsb' 0 5).toNat < 8 →
      (s.psr.ef = true → v.getLsbD 12 = false → s.fpu.mode = .execute) →
      let p : Psr := {
        icc := { n := v.getLsbD 23, z := v.getLsbD 22, v := v.getLsbD 21, c := v.getLsbD 20 }
        ec := v.getLsbD 13, ef := v.getLsbD 12, pil := v.extractLsb' 8 4, s := v.getLsbD 7, ps := v.getLsbD 6
        et := v.getLsbD 5, cwp := v.extractLsb' 0 3 }
      exec (.wrpsr rs1 op2) s = .next { after with
        psr := p
        delays := { d with psr := {
          count := 3, icc := decide (s.psr.icc ≠ p.icc), ec := decide (s.psr.ec ≠ p.ec)
          ef := decide (s.psr.ef ≠ p.ef), s := decide (s.psr.s ≠ p.s), ps := decide (s.psr.ps ≠ p.ps)
          cwp := decide (s.psr.cwp ≠ p.cwp), oldEt := if s.psr.et = p.et then [] else [s.psr.et]
          oldPil := if s.psr.pil = p.pil then [] else [s.psr.pil] } } }) ∧
    (s.psr.s = true →
      exec (.wrwim rs1 op2) s = .next { after with
        wim := v.extractLsb' 0 8
        delays := { d with wim := { count := 3, mask := s.wim ^^^ v.extractLsb' 0 8 } } } ∧
      exec (.wrtbr rs1 op2) s = .next { after with
        tbr := { s.tbr with tba := v.extractLsb' 12 20 }
        delays := { d with tbr := {
          count := 3, oldTba := if s.tbr.tba = v.extractLsb' 12 20 then [] else [s.tbr.tba] } } })

/-- Privilege and illegality of the state register instructions and of the queue stores (46_state_registers.md sections
1 and 2, R532, R533). In user mode RDPSR, RDWIM, RDTBR, WRPSR, WRWIM, WRTBR, STDFQ and STDCQ, and RDASR and WRASR of
24 to 31, raise privileged_instruction; RDASR and WRASR of 16 to 23 raise illegal_instruction in either mode, of 24
to 29 (and of 30 and 31 without those registers) in supervisor mode; WRPSR of an unimplemented window raises
illegal_instruction. WRPSR that clears EF while the FPU holds an exception, which the spec calls undefined, is
refused by name (log 18). -/
def Obligations.StateRegisterTraps : Prop :=
  ∀ (s : State) (rd rs1 : RegNum) (op2 : RegImm), Settled s →
    let v := operand1 rs1 s ^^^ operand2 op2 s
    (s.psr.s = false → ∀ i ∈ [Instr.rdpsr rd, .rdwim rd, .rdtbr rd, .wrpsr rs1 op2, .wrwim rs1 op2, .wrtbr rs1 op2,
      .stdfq rs1 op2, .stdcq rs1 op2], Raises .privilegedInstruction i s) ∧
    (s.cfg.asrDecode = .table → ∀ n : RegNum, ∀ i ∈ [Instr.rdasr rd n, .wrasr n rs1 op2],
      (16 ≤ n.toNat → n.toNat ≤ 23 → Raises .illegalInstruction i s) ∧
      (24 ≤ n.toNat → s.psr.s = false → Raises .privilegedInstruction i s) ∧
      (24 ≤ n.toNat → s.psr.s = true → (n.toNat ≤ 29 ∨ s.cfg.hasHyperSparcAsr = false) →
        Raises .illegalInstruction i s)) ∧
    (s.psr.s = true → 8 ≤ (v.extractLsb' 0 5).toNat → Raises .illegalInstruction (.wrpsr rs1 op2) s) ∧
    (s.psr.s = true → (v.extractLsb' 0 5).toNat < 8 → s.psr.ef = true → v.getLsbD 12 = false → s.fpu.mode ≠ .execute →
      exec (.wrpsr rs1 op2) s = .refused .fpuDisabledWhileBusy)

/-- A delayed write is over after three instructions executed or annulled, and not before (70_reset_and_hazards.md
section 2, R62, R570, R571, R572, R573, R575). Every instruction that completes lowers the count of each window that
it does not open, and leaves what is masked in it until the count is 0, but for the fields that it writes at once;
the alternative is a trap (which TbaOldOrNew and TrapEntry describe). A step that executes an instruction (no
delayed write, no trap) or passes an annulled slot lowers every count by one; three such steps from windows within
bounds close all six, and a window that a write has just opened has a count of 1 after two, with its mask. -/
def Obligations.DelayWindow : Prop :=
  (∀ (i : Instr) (s t : State), exec i s = .next t → TrapEntered s t ∨ WindowsCounted i s.delays t.delays) ∧
  (∀ s t : State, Executes s t → CountsFall s.delays t.delays) ∧
  (∀ s : State, (boundary s).inputs.resetReq = false → (boundary s).mode = .run → interruptTaken (boundary s) = false →
    (boundary s).annul = true → ∃ t, Executes s t ∧ t.delays = s.delays.tick) ∧
  (∀ a b c d : State, DelaysBounded a.delays → Executes a b → Executes b c → Executes c d → d.delays = noDelays) ∧
  (∀ a b c : State, Executes a b → Executes b c →
    (a.delays.psr.count = 3 → c.delays.psr.count = 1) ∧ (a.delays.wim.count = 3 → c.delays.wim.count = 1) ∧
    (a.delays.tbr.count = 3 → c.delays.tbr.count = 1) ∧ (a.delays.y.count = 3 → c.delays.y.count = 1) ∧
    (a.delays.diag.count = 3 → c.delays.diag.count = 1) ∧ (a.delays.iccr.count = 3 → c.delays.iccr.count = 1)) ∧
  (∀ d : Delays, DelaysBounded d → d.tick.tick.tick = noDelays) ∧
  (∀ (old new : Psr) (d : Delays), { d with psr := d.psr.write old new }.tick.tick.psr =
    { d.psr.write old new with count := 1 }) ∧
  (∀ (old new : BitVec 8) (d : Delays), { d with wim := d.wim.write old new }.tick.tick.wim =
    { d.wim.write old new with count := 1 }) ∧
  (∀ (old new : BitVec 20) (d : Delays), { d with tbr := d.tbr.write old new }.tick.tick.tbr =
    { d.tbr.write old new with count := 1 }) ∧
  (∀ (old new : Word) (d : Delays), { d with y := d.y.write old new }.tick.tick.y =
    { d.y.write old new with count := 1 }) ∧
  (∀ (old new : Word) (d : Delays), { d with diag := d.diag.write old new }.tick.tick.diag =
    { d.diag.write old new with count := 1 }) ∧
  (∀ (cfg : Config) (old new : Word) (d : Delays), { d with iccr := d.iccr.write cfg old new }.tick.tick.iccr =
    { d.iccr.write cfg old new with count := 1 })

/-- A trap in the window of WRTBR uses the old or a new TBA, keeps the new one and closes the window
(70_reset_and_hazards.md section 2, R572, R570). In every state, trap entry vectors through TBA or a value that TBA
had in the open window of WRTBR, leaves TBR with the TBA last written and the trap's code, and sets every window's
count to 0; error mode leaves the windows as they are. With ET not being modified a trap is entered when ET = 1, and
an interrupt that is taken is entered. So after a WRTBR in supervisor mode, a trap at any of the next three
instructions vectors through the old TBA or the new one, and after them through the new one. -/
def Obligations.TbaOldOrNew : Prop :=
  (∀ (s : State) (T : TrapType),
    (∃ x ∈ s.tbr.tba :: s.delays.tbr.oldTba, (trapEntry T s).pc = x ++ trapCode T ++ 0#4) ∧
    (trapEntry T s).tbr = { tba := s.tbr.tba, tt := trapCode T } ∧ (trapEntry T s).delays = noDelays ∧
    (enterErrorMode T s).delays = s.delays ∧
    (s.delays.psr.oldEt = [] →
      raise T s = .next (if s.psr.et then trapEntry T s else enterErrorMode T s))) ∧
  (∀ s : State, (boundary s).inputs.resetReq = false → (boundary s).mode = .run → interruptTaken (boundary s) = true →
    step s = .next (trapEntry (.interruptLevel (boundary s).inputs.irl) (boundary s))) ∧
  (∀ (s a : State) (rs1 : RegNum) (op2 : RegImm), Settled s → s.psr.s = true → exec (.wrtbr rs1 op2) s = .next a →
    let new : BitVec 20 := (operand1 rs1 s ^^^ operand2 op2 s).extractLsb' 12 20
    let oldOrNew : State → Prop := fun u => ∀ T : TrapType,
      ((trapEntry T (boundary u)).pc = s.tbr.tba ++ trapCode T ++ 0#4 ∨
        (trapEntry T (boundary u)).pc = new ++ trapCode T ++ 0#4) ∧
      (trapEntry T (boundary u)).tbr = { tba := new, tt := trapCode T }
    oldOrNew a ∧ ∀ b, Executes a b → oldOrNew b ∧ ∀ c, Executes b c → oldOrNew c ∧ ∀ d, Executes c d →
      ∀ T : TrapType, (trapEntry T (boundary d)).pc = new ++ trapCode T ++ 0#4)

/-- The floating-point loads: f registers and FSR, and the frame (41_fp_cp_load_store.md section 2, R201). With the FPU
ready and the access aligned and permitted, LDF puts the word in f[rd], LDDF (an rd that names a pair) the two words
in the even and odd register, LDFSR writes RD, TEM, NS, fcc, aexc and cexc and keeps ftt; nothing else changes but
pc and npc. -/
def Obligations.FpLoadEffects : Prop :=
  ∀ (s : State) (rd rs1 : RegNum) (op2 : RegImm), FpuReady s →
    let ea := effectiveAddress rs1 op2 s
    let asi := modeDataSpace s
    let w := loadWord false asi ea s
    let lo := loadWord false asi (ea + 4#32) s
    (AccessPermitted .read 4 asi ea s → ∃ t, exec (.ldf rd rs1 op2) s = .next t ∧
      FpLoaded (fun n => if n = rd then w else readF n s) s.fpu.fsr s t) ∧
    (AccessPermitted .read 8 asi ea s → PairNumber rd s → ∃ t, exec (.lddf rd rs1 op2) s = .next t ∧
      FpLoaded (fun n => if n = pairOdd rd then lo else if n = pairEven rd then w else readF n s) s.fpu.fsr s t) ∧
    (AccessPermitted .read 4 asi ea s → ∃ t, exec (.ldfsr rs1 op2) s = .next t ∧
      FpLoaded (fun n => readF n s)
        { rd := w.extractLsb' 30 2, tem := w.extractLsb' 23 5, ns := w.getLsbD 22, ftt := s.fpu.fsr.ftt
          fcc := w.extractLsb' 10 2, aexc := w.extractLsb' 5 5, cexc := w.extractLsb' 0 5 } s t)

/-- The floating-point stores: the bytes written, the queue, and the frame (41_fp_cp_load_store.md section 2, R56, R59,
R98). With the FPU enabled and no exception pending (in fp_execute or in fp_exception mode), memory canonical and
the access aligned and permitted, STF, STDF, STFSR store f[rd], the pair, or the FSR with its fields in the places
of R56, and STDFQ in supervisor mode with a nonempty queue stores the front entry, removes it in fp_exception mode,
and an emptied queue returns the FPU to fp_execute; an instruction word that a store changes may be fetched at its
older value (R98), and nothing else changes but pc and npc. -/
def Obligations.FpStoreEffects : Prop :=
  ∀ (s : State) (rd rs1 : RegNum) (op2 : RegImm), Settled s → MemoryCanonical s → s.cfg.hasFpu = true →
    s.psr.ef = true → s.fpu.mode ≠ .exceptionPending →
    let ea := effectiveAddress rs1 op2 s
    let asi := modeDataSpace s
    (AccessPermitted .write 4 asi ea s → ∃ t, exec (.stf rd rs1 op2) s = .next t ∧
      Stored asi ea (bytesOfWord (readF rd s)) s t) ∧
    (AccessPermitted .write 8 asi ea s → PairNumber rd s → ∃ t, exec (.stdf rd rs1 op2) s = .next t ∧
      Stored asi ea (bytesOfWord (readF (pairEven rd) s) ++ bytesOfWord (readF (pairOdd rd) s)) s t) ∧
    (AccessPermitted .write 4 asi ea s → ∃ (t : State) (w : Word), exec (.stfsr rs1 op2) s = .next t ∧
      Stored asi ea (bytesOfWord w) s t ∧
      w.extractLsb' 30 2 = s.fpu.fsr.rd ∧ w.extractLsb' 28 2 = 0#2 ∧ w.extractLsb' 23 5 = s.fpu.fsr.tem ∧
      w.getLsbD 22 = s.fpu.fsr.ns ∧ w.extractLsb' 20 2 = 0#2 ∧ w.extractLsb' 17 3 = s.cfg.fsrVer ∧
      w.extractLsb' 14 3 = s.fpu.fsr.ftt ∧ w.getLsbD 13 = decide (s.fpu.queue ≠ []) ∧ w.getLsbD 12 = false ∧
      w.extractLsb' 10 2 = s.fpu.fsr.fcc ∧ w.extractLsb' 5 5 = s.fpu.fsr.aexc ∧ w.extractLsb' 0 5 = s.fpu.fsr.cexc) ∧
    (AccessPermitted .write 8 asi ea s → s.psr.s = true → ∀ e rest, s.fpu.queue = e :: rest →
      ∃ t, exec (.stdfq rs1 op2) s = .next t ∧ QuietEffect s t ∧
        BytesStored asi ea (bytesOfWord e.addr ++ bytesOfWord e.instr) s t ∧ t.cp = s.cp ∧
        t.fpu = if s.fpu.mode = .exception then
            { s.fpu with queue := rest, mode := if rest = [] then .execute else .exception }
          else s.fpu)

/-- Without an FPU or with EF = 0 every floating-point instruction raises fp_disabled (R534). Every FPop, FBfcc and
floating-point load and store raises fp_disabled when no FPU is present or EF = 0 (STDFQ in supervisor mode; a
doubleword form with an rd that names a pair). -/
def Obligations.FpDisabledTraps : Prop :=
  ∀ (s : State) (i : Instr), Settled s → isFloating i = true → (queueStore i = true → s.psr.s = true) → PairReady i s →
    (s.cfg.hasFpu = false ∨ s.psr.ef = false) → Raises .fpDisabled i s

/-- A pending exception is taken by the next floating-point instruction, and the drain order is enforced
(41_fp_cp_load_store.md section 1, R59, R540). With the FPU enabled: in fp_exception_pending mode every floating-
point instruction (an aligned access; STDFQ in supervisor mode) raises fp_exception and the mode becomes
fp_exception; in fp_exception mode every FPop, FBfcc and load, and outside fp_exception_pending mode STDFQ on an
empty queue, raises fp_exception with ftt = 4. -/
def Obligations.FpExceptionTraps : Prop :=
  ∀ (s : State) (i : Instr), Settled s → s.cfg.hasFpu = true → s.psr.ef = true → isFloating i = true →
    (queueStore i = true → s.psr.s = true) → PairReady i s →
    (∀ kind n rs1 op2, fpAccessOf i = some (kind, n, rs1, op2) → (effectiveAddress rs1 op2 s).toNat % n = 0) →
    (s.fpu.mode = .exceptionPending →
      ∃ t, exec i s = .next t ∧ TrapOutcome .fpException { s with fpu := { s.fpu with mode := .exception } } t) ∧
    ((s.fpu.mode = .exception ∧ (∀ n rs1 op2, fpAccessOf i ≠ some (.write, n, rs1, op2))) ∨
        (s.fpu.mode ≠ .exceptionPending ∧ queueStore i = true ∧ s.fpu.queue = []) →
      ∃ t, exec i s = .next t ∧
        TrapOutcome .fpException { s with fpu := { s.fpu with fsr := { s.fpu.fsr with ftt := 4#3 } } } t)

/-- An FPop that signals no enabled exception completes: result, fcc, exceptions and frame (47_fpop_cpop_misc.md
sections 2 and 3, R415). For every FPop that the FPU runs (quad ones only with QUAD_FP) and whose signalled
exceptions are all masked, the instruction completes: the result is in the registers of f[rd] (in fcc for a
compare), cexc is what it signals, aexc accrues it, ftt is 0, and nothing else changes but pc and npc. FMOVs, FNEGs
and FABSs give the operand with its sign kept, flipped or cleared and signal nothing. -/
def Obligations.FpopEffects : Prop :=
  (∀ (s : State) (i : Instr) (op : FpOp) (rd rs1 rs2 : RegNum), fpopOf i = some (op, rd, rs1, rs2) →
    FpopRuns op rd rs1 rs2 s → (fpResult op rs1 rs2 s).2 &&& s.fpu.fsr.tem = 0#5 →
      ∃ t, exec i s = .next t ∧ FpopEffect op rd (fpResult op rs1 rs2 s) s t) ∧
  (∀ (s : State) (rs1 rs2 : RegNum),
    fpResult .fmovs rs1 rs2 s = ((readF rs2 s).toNat, 0#5) ∧
    fpResult .fnegs rs1 rs2 s = ((readF rs2 s ^^^ 0x80000000#32).toNat, 0#5) ∧
    fpResult .fabss rs1 rs2 s = ((readF rs2 s &&& 0x7FFFFFFF#32).toNat, 0#5))

/-- An FPop that the FPU does not finish is held in the queue with its ftt, and the next step goes on
(47_fpop_cpop_misc.md section 2, R412, R413, R414, R415). With the FPU ready: a quad FPop without QUAD_FP is held
with ftt = 3; otherwise a misaligned register number is held with ftt = 6 under illegal_instruction, and refused by
name under refuse (log 6); otherwise an FPop with an enabled exception is held with ftt = 1 and a cexc that holds an
enabled exception and only signalled ones. An FPU that may decline (the model's parameter, log 17) holds the FPop
with ftt = 2 when a free bit says so, and otherwise finishes it as one that may not: with its effects, or held with
ftt = 1. In every held case the f registers, fcc and aexc are unchanged. -/
def Obligations.FpopHeldCases : Prop :=
  ∀ (s : State) (i : Instr) (op : FpOp) (rd rs1 rs2 : RegNum), fpopOf i = some (op, rd, rs1, rs2) → FpuReady s →
    (op.isQuad = true → s.cfg.quadFp = false →
      ∃ t, exec i s = .next t ∧ FpopHeld 3#3 (encode i) s t ∧ t.fpu.fsr.cexc = s.fpu.fsr.cexc) ∧
    (op.isQuad = false ∨ s.cfg.quadFp = true → op.alignedOperands rd rs1 rs2 = false →
      (s.cfg.oddRd = .illegalInstruction →
        ∃ t, exec i s = .next t ∧ FpopHeld 6#3 (encode i) s t ∧ t.fpu.fsr.cexc = s.fpu.fsr.cexc) ∧
      (s.cfg.oddRd = .refuse → exec i s = .refused .oddRegister)) ∧
    (FpopRuns op rd rs1 rs2 s → (fpResult op rs1 rs2 s).2 &&& s.fpu.fsr.tem ≠ 0#5 →
      ∃ t, exec i s = .next t ∧ FpopTrapped (encode i) (fpResult op rs1 rs2 s).2 s t) ∧
    (FpopAccepted op rd rs1 rs2 s → s.cfg.fpuMayDecline = true →
      ∃ t, exec i s = .next t ∧
        if freeBit s.draws .fpuDeclines = true then FpopHeld 2#3 (encode i) s t ∧ t.fpu.fsr.cexc = s.fpu.fsr.cexc
        else if (fpResult op rs1 rs2 s).2 &&& s.fpu.fsr.tem = 0#5 then FpopEffect op rd (fpResult op rs1 rs2 s) s t
        else FpopTrapped (encode i) (fpResult op rs1 rs2 s).2 s t)

/-- FiTOd is exact: the double read back is the integer, and nothing is signalled (R441). For every 32-bit integer,
FiTOd with NS = 0 signals nothing, and its bit pattern reads as +0 for zero and otherwise as the number with the
integer's sign and magnitude. -/
def Obligations.IntegerToDoubleExact : Prop :=
  ∀ (s : State) (rs1 rs2 : RegNum), s.fpu.fsr.ns = false →
    let w := readF rs2 s
    let r := fpResult .fitod rs1 rs2 s
    r.2 = 0#5 ∧ r.1 < 2 ^ 64 ∧
      if w = 0#32 then fpDouble.read r.1 = .zero false
      else ∃ (mant : Nat) (k : Nat), fpDouble.read r.1 = .number w.msb mant (-(k : Int)) ∧
        mant = w.toInt.natAbs * 2 ^ k

/-- With a coprocessor present the coprocessor loads, stores and operate instructions complete (41_fp_cp_load_store.md
section 3, 47_fpop_cpop_misc.md section 4, R98). With a coprocessor present, enabled and without a pending
exception: LDC, LDDC and LDCSR load c registers and CSR; STC, STDC and STCSR store them, and STDCQ in supervisor
mode stores the front entry of a nonempty queue (what becomes of the queue is the coprocessor's, log 24); CPop1 and
CPop2 hand the whole word to the coprocessor. An instruction word that a store changes may be fetched at its older
value (R98), and nothing else changes but pc and npc. -/
def Obligations.CoprocessorEffects : Prop :=
  ∀ (s : State) (rd rs1 : RegNum) (op2 : RegImm), CpReady s → MemoryCanonical s →
    let ea := effectiveAddress rs1 op2 s
    let asi := modeDataSpace s
    let w := loadWord false asi ea s
    let lo := loadWord false asi (ea + 4#32) s
    (AccessPermitted .read 4 asi ea s → ∃ t, exec (.ldc rd rs1 op2) s = .next t ∧
      CpLoaded (fun n => if n = rd then w else readC n s) s.cp.csr s t) ∧
    (AccessPermitted .read 8 asi ea s → PairNumber rd s → ∃ t, exec (.lddc rd rs1 op2) s = .next t ∧
      CpLoaded (fun n => if n = pairOdd rd then lo else if n = pairEven rd then w else readC n s) s.cp.csr s t) ∧
    (AccessPermitted .read 4 asi ea s → ∃ t, exec (.ldcsr rs1 op2) s = .next t ∧
      CpLoaded (fun n => readC n s) w s t) ∧
    (AccessPermitted .write 4 asi ea s → ∃ t, exec (.stc rd rs1 op2) s = .next t ∧
      Stored asi ea (bytesOfWord (readC rd s)) s t) ∧
    (AccessPermitted .write 8 asi ea s → PairNumber rd s → ∃ t, exec (.stdc rd rs1 op2) s = .next t ∧
      Stored asi ea (bytesOfWord (readC (pairEven rd) s) ++ bytesOfWord (readC (pairOdd rd) s)) s t) ∧
    (AccessPermitted .write 4 asi ea s → ∃ t, exec (.stcsr rs1 op2) s = .next t ∧
      Stored asi ea (bytesOfWord s.cp.csr) s t) ∧
    (AccessPermitted .write 8 asi ea s → s.psr.s = true → ∀ e rest, s.cp.queue = e :: rest →
      ∃ t, exec (.stdcq rs1 op2) s = .next t ∧ QuietEffect s t ∧
        BytesStored asi ea (bytesOfWord e.addr ++ bytesOfWord e.instr) s t ∧ t.fpu = s.fpu ∧
        ∃ queue, t.cp = { s.cp with queue := queue }) ∧
    (∀ i word, cpopWord i = some word → exec i s = .next { s with
      cp := Config.cpOperate s.draws word s.cp, pc := s.npc, npc := s.npc + 4#32, delays := s.delays.tick })

/-- The traps of coprocessor instructions: cp_disabled, then a misaligned access, a pending exception, a refused access
(R535, R541, R539, R542, 41_fp_cp_load_store.md sections 1 and 3). With no coprocessor present, whatever EC holds,
every coprocessor load, store, CBccc and CPop raises cp_disabled; so they do with EC = 0 and a coprocessor present.
With a coprocessor enabled, a misaligned load or store raises memory_address_not_aligned, otherwise a pending
exception raises cp_exception, and otherwise an access that the memory system refuses raises data_access_exception.
STDCQ is taken in supervisor mode, a doubleword form with an rd that names a pair. What a trap of a load, or
cp_exception, leaves in a present coprocessor is the free function of log 24. -/
def Obligations.CoprocessorTraps : Prop :=
  ∀ (s : State) (i : Instr), Settled s → isCoprocessor i = true → (queueStore i = true → s.psr.s = true) →
    PairReady i s →
    let trapped : State := { s with cp := Config.cpAfterTrap s.draws s.cp }
    (s.cfg.hasCp = false ∨ (s.psr.ec = false ∧ isCpLoad i = false) → Raises .cpDisabled i s) ∧
    (s.cfg.hasCp = true → s.psr.ec = false → isCpLoad i = true →
      ∃ t, exec i s = .next t ∧ TrapOutcome .cpDisabled trapped t) ∧
    (s.cfg.hasCp = true → s.psr.ec = true →
      ∀ kind n rs1 op2, cpAccessOf i = some (kind, n, rs1, op2) → (effectiveAddress rs1 op2 s).toNat % n ≠ 0 →
        ∃ t, exec i s = .next t ∧ TrapOutcome .memoryAddressNotAligned (if isCpLoad i then trapped else s) t) ∧
    (s.cfg.hasCp = true → s.psr.ec = true → s.cp.pending = true →
      (∀ kind n rs1 op2, cpAccessOf i = some (kind, n, rs1, op2) → (effectiveAddress rs1 op2 s).toNat % n = 0) →
        ∃ t, exec i s = .next t ∧ TrapOutcome .cpException trapped t) ∧
    (s.cfg.hasCp = true → s.psr.ec = true → s.cp.pending = false →
      ∀ kind n rs1 op2, cpAccessOf i = some (kind, n, rs1, op2) → (effectiveAddress rs1 op2 s).toNat % n = 0 →
        accessOk s.cfg kind n (modeDataSpace s) (effectiveAddress rs1 op2 s) = false →
        ∃ t, exec i s = .next t ∧ TrapOutcome .dataAccessException (if isCpLoad i then trapped else s) t)

/-- UNIMP raises illegal_instruction; FLUSH drops stale words or raises unimplemented_FLUSH (47_fpop_cpop_misc.md
sections 5 and 6, R536, R470, R98, 92_eei_decisions.md D21). UNIMP raises illegal_instruction whatever const22
holds. FLUSH under icache with FTD = 1 completes: the words of the doubleword at its address may no longer be
fetched stale, those of other addresses stay as they were, and nothing else changes but pc and npc; with FTD = 0, or
under trap, it raises unimplemented_FLUSH; under nop it only advances. On a machine without ICCR (HAS_HYPERSPARC_ASR
= false) it is the model's choice that FLUSH tests the FTD bit of the field iccr all the same (log 49). That the
older words are dropped at once, and of the whole doubleword and no more, is decision D21 as the model follows it
(R98, log 21): the spec leaves open how many instructions later, up to five, the new word is certain, and the size
of the sub-block flushed. -/
def Obligations.UnimpFlushEffects : Prop :=
  ∀ (s : State) (rs1 : RegNum) (op2 : RegImm) (const22 : BitVec 22), Settled s →
    let ea := effectiveAddress rs1 op2 s
    let ftd := s.iccr.getLsbD s.cfg.iccrFtdBit.val
    let after : State := { s with pc := s.npc, npc := s.npc + 4#32, delays := s.delays.tick }
    Raises .illegalInstruction (.unimp const22) s ∧
    (s.cfg.flushMode = .icache → ftd = true → ∃ stale, exec (.flush rs1 op2) s = .next { after with stale := stale } ∧
      ∀ a : Word, staleValues a { after with stale := stale } =
        if a.toNat / 8 = ea.toNat / 8 then [] else staleValues a s) ∧
    ((s.cfg.flushMode = .icache ∧ ftd = false) ∨ s.cfg.flushMode = .trap →
      Raises .unimplementedFlush (.flush rs1 op2) s) ∧
    (s.cfg.flushMode = .nop → exec (.flush rs1 op2) s = .next after)

/-- Raising a trap: the seven steps of trap entry with ET = 1, error mode with ET = 0 (60_exceptions.md section 3,
R525). For every trap type and state with ET and TBA not being modified: with ET = 1 the state is that of the seven
steps (ET, PS, CWP, r[17] and r[18] of the new window with the annul case, S, tt, pc and npc) and everything else is
as it was; with ET = 0 only tt and the mode change. The handler is at TBA ++ tt ++ 0000. -/
def Obligations.TrapEntry : Prop :=
  ∀ (s : State) (T : TrapType), Settled s →
    ∃ t, raise T s = .next t ∧ TrapOutcome T s t ∧
      (s.psr.et = true → t.pc.toNat = s.tbr.tba.toNat * 4096 + (trapCode T).toNat * 16)

/-- Every step keeps the invariant (R32, R58, R59, 10_state.md sections 2, 5 and 6). For every state with pc and npc
aligned, the FPU's queue and mode agreeing, the memory in canonical form, the bus free and the delayed-write windows
bounded, whatever state a step leads to has all of these. -/
def Obligations.InvariantKept : Prop :=
  ∀ s t : State, Inv s → step s = .next t → Inv t

/-- The invariant holds at reset (10_state.md sections 2, 5, 6 and 7). The state after reset has pc and npc aligned, an
empty queue in fp_execute, canonical memory, a free bus and no delayed write. -/
def Obligations.InvariantAtReset : Prop :=
  Inv State.reset

/-- User mode changes no control state except by entering a trap handler or error mode (R41, R526, 10_state.md section
4). Whatever instruction user mode executes with no field being modified: either WIM, TBR, ICCR, DIAG, the mode and
every PSR field but icc and CWP are unchanged; or, with ET = 1, the machine is in supervisor mode with traps
disabled at the handler that TBA and the new tt name; or, with ET = 0, it is in error mode with the PSR unchanged. -/
def Obligations.UserModeConfined : Prop :=
  ∀ (i : Instr) (s t : State), Settled s → s.psr.s = false → exec i s = .next t →
    Confined s t ∨ (s.psr.et = true ∧ HandlerEntered s t) ∨
      (s.psr.et = false ∧ t.mode = .error ∧ t.psr = s.psr ∧ t.wim = s.wim ∧ t.tbr.tba = s.tbr.tba ∧ t.iccr = s.iccr ∧
        t.diag = s.diag)

/-- Only the cc instructions and WRPSR write icc, and only stores and atomics write memory (R36, 20_memory.md section
4). An instruction that is neither a cc instruction nor WRPSR leaves icc as it was, and one that is neither a store
nor an atomic leaves memory as it was and, unless it is FLUSH, what a fetch may read stale; whatever it does, also
when it traps. -/
def Obligations.WritersOnly : Prop :=
  ∀ (i : Instr) (s t : State), exec i s = .next t →
    (writesIcc i = false → t.psr.icc = s.psr.icc) ∧ (writesMemory i = false → t.mem = s.mem) ∧
    (writesMemory i = false → (∀ rs1 op2, i ≠ .flush rs1 op2) → t.stale = s.stale)

/-- Executing an instruction never faults, and is refused in two named cases only (10_state.md section 1,
47_fpop_cpop_misc.md section 2, R26, R413, R417, R574). In every state, an instruction leads to a next state with
the same parameters, or is refused: under ODD_RD = refuse a doubleword load or store whose rd is odd, or an FPop
with a misaligned register number; or a WRPSR whose value clears EF, which is 1, while the FPU holds an exception.
Both refusals are decisions of the spec that the model follows (D9 and log 6, U10 and log 18). -/
def Obligations.ExecutionAnswers : Prop :=
  ∀ (i : Instr) (s : State),
    (∃ t, exec i s = .next t ∧ t.cfg = s.cfg) ∨
    (exec i s = .refused .oddRegister ∧ s.cfg.oddRd = .refuse ∧
      ((∃ rd, pairOf i = some rd ∧ oddNumber rd = true) ∨
        ∃ op rd rs1 rs2, fpopOf i = some (op, rd, rs1, rs2) ∧ op.alignedOperands rd rs1 rs2 = false)) ∨
    (exec i s = .refused .fpuDisabledWhileBusy ∧ s.psr.ef = true ∧ s.fpu.mode ≠ .execute ∧
      ∃ rs1 op2, i = .wrpsr rs1 op2 ∧ (operand1 rs1 s ^^^ operand2 op2 s).getLsbD 12 = false)
end

