-- ==== Sys2Proof/Laws/Decode.lean ====
section
/-! SUPPORT. The fields of an encoded word: what each field of R124 reads in each of the formats that the encoder
writes, and what the operand forms decode to. -/

namespace Sys2Proof.Laws

@[simp] theorem fieldOp_encodeFormat1 (disp30 : BitVec 30) :
    fieldOp (encodeFormat1 disp30) = 0b01#2 := by
  unfold fieldOp encodeFormat1
  ext i h
  simp
  try grind

@[simp] theorem fieldDisp30_encodeFormat1 (disp30 : BitVec 30) :
    fieldDisp30 (encodeFormat1 disp30) = disp30 := by
  unfold fieldDisp30 encodeFormat1
  ext i h
  simp
  try grind

@[simp] theorem fieldOp_encodeFormat2 (rd : RegNum) (op2 : BitVec 3) (imm22 : BitVec 22) :
    fieldOp (encodeFormat2 rd op2 imm22) = 0b00#2 := by
  unfold fieldOp encodeFormat2
  ext i h
  simp
  try grind

@[simp] theorem fieldRd_encodeFormat2 (rd : RegNum) (op2 : BitVec 3) (imm22 : BitVec 22) :
    fieldRd (encodeFormat2 rd op2 imm22) = rd := by
  unfold fieldRd encodeFormat2
  ext i h
  simp
  try grind

@[simp] theorem fieldOp2_encodeFormat2 (rd : RegNum) (op2 : BitVec 3) (imm22 : BitVec 22) :
    fieldOp2 (encodeFormat2 rd op2 imm22) = op2 := by
  unfold fieldOp2 encodeFormat2
  ext i h
  simp
  try grind

@[simp] theorem fieldImm22_encodeFormat2 (rd : RegNum) (op2 : BitVec 3) (imm22 : BitVec 22) :
    fieldImm22 (encodeFormat2 rd op2 imm22) = imm22 := by
  unfold fieldImm22 encodeFormat2
  ext i h
  simp
  try grind

@[simp] theorem fieldOp_encodeBranch (a : Bool) (cond : BitVec 4) (op2 : BitVec 3) (disp22 : BitVec 22) :
    fieldOp (encodeBranch a cond op2 disp22) = 0b00#2 := by
  unfold fieldOp encodeBranch
  ext i h
  simp
  try grind

@[simp] theorem fieldA_encodeBranch (a : Bool) (cond : BitVec 4) (op2 : BitVec 3) (disp22 : BitVec 22) :
    fieldA (encodeBranch a cond op2 disp22) = BitVec.ofBool a := by
  unfold fieldA encodeBranch
  ext i h
  simp
  try grind

@[simp] theorem fieldCond_encodeBranch (a : Bool) (cond : BitVec 4) (op2 : BitVec 3) (disp22 : BitVec 22) :
    fieldCond (encodeBranch a cond op2 disp22) = cond := by
  unfold fieldCond encodeBranch
  ext i h
  simp
  try grind

@[simp] theorem fieldOp2_encodeBranch (a : Bool) (cond : BitVec 4) (op2 : BitVec 3) (disp22 : BitVec 22) :
    fieldOp2 (encodeBranch a cond op2 disp22) = op2 := by
  unfold fieldOp2 encodeBranch
  ext i h
  simp
  try grind

@[simp] theorem fieldImm22_encodeBranch (a : Bool) (cond : BitVec 4) (op2 : BitVec 3) (disp22 : BitVec 22) :
    fieldImm22 (encodeBranch a cond op2 disp22) = disp22 := by
  unfold fieldImm22 encodeBranch
  ext i h
  simp
  try grind

@[simp] theorem fieldOp_encodeFormat3 (op : BitVec 2) (rd : RegNum) (op3 : BitVec 6) (rs1 : RegNum) (low : BitVec 14) :
    fieldOp (encodeFormat3 op rd op3 rs1 low) = op := by
  unfold fieldOp encodeFormat3
  ext i h
  simp
  try grind

@[simp] theorem fieldRd_encodeFormat3 (op : BitVec 2) (rd : RegNum) (op3 : BitVec 6) (rs1 : RegNum) (low : BitVec 14) :
    fieldRd (encodeFormat3 op rd op3 rs1 low) = rd := by
  unfold fieldRd encodeFormat3
  ext i h
  simp
  try grind

@[simp] theorem fieldOp3_encodeFormat3 (op : BitVec 2) (rd : RegNum) (op3 : BitVec 6) (rs1 : RegNum) (low : BitVec 14) :
    fieldOp3 (encodeFormat3 op rd op3 rs1 low) = op3 := by
  unfold fieldOp3 encodeFormat3
  ext i h
  simp
  try grind

@[simp] theorem fieldRs1_encodeFormat3 (op : BitVec 2) (rd : RegNum) (op3 : BitVec 6) (rs1 : RegNum) (low : BitVec 14) :
    fieldRs1 (encodeFormat3 op rd op3 rs1 low) = rs1 := by
  unfold fieldRs1 encodeFormat3
  ext i h
  simp
  try grind

@[simp] theorem fieldI_encodeFormat3 (op : BitVec 2) (rd : RegNum) (op3 : BitVec 6) (rs1 : RegNum) (low : BitVec 14) :
    fieldI (encodeFormat3 op rd op3 rs1 low) = low.extractLsb' 13 1 := by
  unfold fieldI encodeFormat3
  ext i h
  simp
  try grind

@[simp] theorem fieldAsi_encodeFormat3 (op : BitVec 2) (rd : RegNum) (op3 : BitVec 6) (rs1 : RegNum) (low : BitVec 14) :
    fieldAsi (encodeFormat3 op rd op3 rs1 low) = low.extractLsb' 5 8 := by
  unfold fieldAsi encodeFormat3
  ext i h
  simp
  try grind

@[simp] theorem fieldOpf_encodeFormat3 (op : BitVec 2) (rd : RegNum) (op3 : BitVec 6) (rs1 : RegNum) (low : BitVec 14) :
    fieldOpf (encodeFormat3 op rd op3 rs1 low) = low.extractLsb' 5 9 := by
  unfold fieldOpf encodeFormat3
  ext i h
  simp
  try grind

@[simp] theorem fieldSimm13_encodeFormat3 (op : BitVec 2) (rd : RegNum) (op3 : BitVec 6) (rs1 : RegNum) (low : BitVec 14) :
    fieldSimm13 (encodeFormat3 op rd op3 rs1 low) = low.extractLsb' 0 13 := by
  unfold fieldSimm13 encodeFormat3
  ext i h
  simp
  try grind

@[simp] theorem fieldShcnt_encodeFormat3 (op : BitVec 2) (rd : RegNum) (op3 : BitVec 6) (rs1 : RegNum) (low : BitVec 14) :
    fieldShcnt (encodeFormat3 op rd op3 rs1 low) = low.extractLsb' 0 5 := by
  unfold fieldShcnt encodeFormat3
  ext i h
  simp
  try grind

@[simp] theorem fieldRs2_encodeFormat3 (op : BitVec 2) (rd : RegNum) (op3 : BitVec 6) (rs1 : RegNum) (low : BitVec 14) :
    fieldRs2 (encodeFormat3 op rd op3 rs1 low) = low.extractLsb' 0 5 := by
  unfold fieldRs2 encodeFormat3
  ext i h
  simp
  try grind

@[simp] theorem fieldCond_encodeFormat3 (op : BitVec 2) (rd : RegNum) (op3 : BitVec 6) (rs1 : RegNum) (low : BitVec 14) :
    fieldCond (encodeFormat3 op rd op3 rs1 low) = rd.extractLsb' 0 4 := by
  unfold fieldCond encodeFormat3
  ext i h
  simp
  try grind

@[simp] theorem ticcRd_cond (cond : BitVec 4) :
    (ticcRd cond).extractLsb' 0 4 = cond := by
  unfold ticcRd
  ext i h
  simp
  try grind

@[simp] theorem opfBits_opf (opf : BitVec 9) (rs2 : RegNum) :
    (opfBits opf rs2).extractLsb' 5 9 = opf := by
  unfold opfBits
  ext i h
  simp
  try grind

@[simp] theorem opfBits_rs2 (opf : BitVec 9) (rs2 : RegNum) :
    (opfBits opf rs2).extractLsb' 0 5 = rs2 := by
  unfold opfBits
  ext i h
  simp
  try grind

@[simp] theorem regImmBits_reg_i (rs2 : RegNum) :
    (regImmBits (.reg rs2)).extractLsb' 13 1 = 0#1 := by
  unfold regImmBits
  ext i h
  simp
  try grind

@[simp] theorem regImmBits_reg_rs2 (rs2 : RegNum) :
    (regImmBits (.reg rs2)).extractLsb' 0 5 = rs2 := by
  unfold regImmBits
  ext i h
  simp
  try grind

@[simp] theorem regImmBits_imm_i (v : BitVec 13) :
    (regImmBits (.imm v)).extractLsb' 13 1 = 1#1 := by
  unfold regImmBits
  ext i h
  simp
  try grind

@[simp] theorem regImmBits_imm_simm13 (v : BitVec 13) :
    (regImmBits (.imm v)).extractLsb' 0 13 = v := by
  unfold regImmBits
  ext i h
  simp
  try grind

@[simp] theorem shiftBits_reg_i (rs2 : RegNum) :
    (shiftBits (.reg rs2)).extractLsb' 13 1 = 0#1 := by
  unfold shiftBits
  ext i h
  simp
  try grind

@[simp] theorem shiftBits_reg_rs2 (rs2 : RegNum) :
    (shiftBits (.reg rs2)).extractLsb' 0 5 = rs2 := by
  unfold shiftBits
  ext i h
  simp
  try grind

@[simp] theorem shiftBits_imm_i (shcnt : BitVec 5) :
    (shiftBits (.imm shcnt)).extractLsb' 13 1 = 1#1 := by
  revert shcnt
  decide

@[simp] theorem shiftBits_imm_shcnt (shcnt : BitVec 5) :
    (shiftBits (.imm shcnt)).extractLsb' 0 5 = shcnt := by
  unfold shiftBits
  ext i h
  simp
  try grind

@[simp] theorem altBits_reg_i (rs2 : RegNum) (asi : Asi) :
    (altBits (.reg rs2 asi)).extractLsb' 13 1 = 0#1 := by
  unfold altBits
  ext i h
  simp
  try grind

@[simp] theorem altBits_reg_rs2 (rs2 : RegNum) (asi : Asi) :
    (altBits (.reg rs2 asi)).extractLsb' 0 5 = rs2 := by
  unfold altBits
  ext i h
  simp
  try grind

@[simp] theorem altBits_reg_asi (rs2 : RegNum) (asi : Asi) :
    (altBits (.reg rs2 asi)).extractLsb' 5 8 = asi := by
  unfold altBits
  ext i h
  simp
  try grind

@[simp] theorem altBits_imm_i (v : BitVec 13) :
    (altBits (.imm v)).extractLsb' 13 1 = 1#1 := by
  unfold altBits
  ext i h
  simp
  try grind

@[simp] theorem altBits_imm_simm13 (v : BitVec 13) :
    (altBits (.imm v)).extractLsb' 0 13 = v := by
  unfold altBits
  ext i h
  simp
  try grind

@[simp] theorem decodeRegImm_encodeFormat3 (op : BitVec 2) (rd : RegNum) (op3 : BitVec 6) (rs1 : RegNum) (b : RegImm) :
    decodeRegImm (encodeFormat3 op rd op3 rs1 (regImmBits b)) = b := by
  cases b <;> simp [decodeRegImm]

@[simp] theorem decodeShiftCount_encodeFormat3 (op : BitVec 2) (rd : RegNum) (op3 : BitVec 6) (rs1 : RegNum) (b : ShiftCount) :
    decodeShiftCount (encodeFormat3 op rd op3 rs1 (shiftBits b)) = b := by
  cases b <;> simp [decodeShiftCount]

@[simp] theorem decodeAltAddr_encodeFormat3 (op : BitVec 2) (rd : RegNum) (op3 : BitVec 6) (rs1 : RegNum) (b : AltAddr) :
    decodeAltAddr (encodeFormat3 op rd op3 rs1 (altBits b)) = b := by
  cases b <;> simp [decodeAltAddr]

@[simp] theorem decodeAnnul_encodeBranch (a : Bool) (cond : BitVec 4) (op2 : BitVec 3) (disp22 : BitVec 22) :
    decodeAnnul (encodeBranch a cond op2 disp22) = a := by
  cases a <;> simp [decodeAnnul]

end Sys2Proof.Laws
end

