-- ==== Sys2Proof/Laws/State.lean ====
section
/-! SUPPORT. What each update of the state leaves alone and what it sets, field by field: one simp lemma for an update,
so that no proof unfolds a record update. -/

namespace Sys2Proof.Laws

open Sys2Proof.Machine

@[simp] theorem advance_fields (s : State) :
    (advance s).regs = s.regs ∧ (advance s).pc = s.npc ∧ (advance s).npc = s.npc + 4#32 ∧
    (advance s).annul = s.annul ∧ (advance s).psr = s.psr ∧ (advance s).wim = s.wim ∧ (advance s).tbr = s.tbr ∧
    (advance s).y = s.y ∧ (advance s).iccr = s.iccr ∧ (advance s).diag = s.diag ∧ (advance s).fpu = s.fpu ∧
    (advance s).cp = s.cp ∧ (advance s).delays = s.delays.tick ∧ (advance s).mode = s.mode ∧
    (advance s).inputs = s.inputs ∧ (advance s).schedule = s.schedule ∧ (advance s).stale = s.stale ∧
    (advance s).mem = s.mem ∧ (advance s).busLock = s.busLock ∧ (advance s).draws = s.draws ∧
    (advance s).cfg = s.cfg :=
  ⟨rfl, rfl, rfl, rfl, rfl, rfl, rfl, rfl, rfl, rfl, rfl, rfl, rfl, rfl, rfl, rfl, rfl, rfl, rfl, rfl, rfl⟩

@[simp] theorem transfer_fields (target : Word) (s : State) :
    (transfer target s).regs = s.regs ∧ (transfer target s).pc = s.npc ∧ (transfer target s).npc = target ∧
    (transfer target s).annul = s.annul ∧ (transfer target s).psr = s.psr ∧ (transfer target s).wim = s.wim ∧
    (transfer target s).tbr = s.tbr ∧ (transfer target s).y = s.y ∧ (transfer target s).iccr = s.iccr ∧
    (transfer target s).diag = s.diag ∧ (transfer target s).fpu = s.fpu ∧ (transfer target s).cp = s.cp ∧
    (transfer target s).delays = s.delays.tick ∧ (transfer target s).mode = s.mode ∧
    (transfer target s).inputs = s.inputs ∧ (transfer target s).schedule = s.schedule ∧
    (transfer target s).stale = s.stale ∧ (transfer target s).mem = s.mem ∧
    (transfer target s).busLock = s.busLock ∧ (transfer target s).draws = s.draws ∧
    (transfer target s).cfg = s.cfg :=
  ⟨rfl, rfl, rfl, rfl, rfl, rfl, rfl, rfl, rfl, rfl, rfl, rfl, rfl, rfl, rfl, rfl, rfl, rfl, rfl, rfl, rfl⟩

@[simp] theorem skipAnnulled_fields (s : State) :
    (skipAnnulled s).regs = s.regs ∧ (skipAnnulled s).pc = s.npc ∧ (skipAnnulled s).npc = s.npc + 4#32 ∧
    (skipAnnulled s).annul = false ∧ (skipAnnulled s).psr = s.psr ∧ (skipAnnulled s).wim = s.wim ∧
    (skipAnnulled s).tbr = s.tbr ∧ (skipAnnulled s).y = s.y ∧ (skipAnnulled s).iccr = s.iccr ∧
    (skipAnnulled s).diag = s.diag ∧ (skipAnnulled s).fpu = s.fpu ∧ (skipAnnulled s).cp = s.cp ∧
    (skipAnnulled s).delays = s.delays.tick ∧ (skipAnnulled s).mode = s.mode ∧
    (skipAnnulled s).inputs = s.inputs ∧ (skipAnnulled s).schedule = s.schedule ∧
    (skipAnnulled s).stale = s.stale ∧ (skipAnnulled s).mem = s.mem ∧ (skipAnnulled s).busLock = s.busLock ∧
    (skipAnnulled s).draws = s.draws ∧ (skipAnnulled s).cfg = s.cfg :=
  ⟨rfl, rfl, rfl, rfl, rfl, rfl, rfl, rfl, rfl, rfl, rfl, rfl, rfl, rfl, rfl, rfl, rfl, rfl, rfl, rfl, rfl⟩

@[simp] theorem setIcc_fields (icc : Icc) (s : State) :
    (setIcc icc s).regs = s.regs ∧ (setIcc icc s).pc = s.pc ∧ (setIcc icc s).npc = s.npc ∧
    (setIcc icc s).annul = s.annul ∧ (setIcc icc s).psr = { s.psr with icc := icc } ∧
    (setIcc icc s).wim = s.wim ∧ (setIcc icc s).tbr = s.tbr ∧ (setIcc icc s).y = s.y ∧
    (setIcc icc s).iccr = s.iccr ∧ (setIcc icc s).diag = s.diag ∧ (setIcc icc s).fpu = s.fpu ∧
    (setIcc icc s).cp = s.cp ∧
    (setIcc icc s).delays = { s.delays with psr := { s.delays.psr with icc := false } } ∧
    (setIcc icc s).mode = s.mode ∧ (setIcc icc s).inputs = s.inputs ∧ (setIcc icc s).schedule = s.schedule ∧
    (setIcc icc s).stale = s.stale ∧ (setIcc icc s).mem = s.mem ∧ (setIcc icc s).busLock = s.busLock ∧
    (setIcc icc s).draws = s.draws ∧ (setIcc icc s).cfg = s.cfg :=
  ⟨rfl, rfl, rfl, rfl, rfl, rfl, rfl, rfl, rfl, rfl, rfl, rfl, rfl, rfl, rfl, rfl, rfl, rfl, rfl, rfl, rfl⟩

@[simp] theorem setCwp_fields (w : WindowNum) (s : State) :
    (setCwp w s).regs = s.regs ∧ (setCwp w s).pc = s.pc ∧ (setCwp w s).npc = s.npc ∧
    (setCwp w s).annul = s.annul ∧ (setCwp w s).psr = { s.psr with cwp := w } ∧ (setCwp w s).wim = s.wim ∧
    (setCwp w s).tbr = s.tbr ∧ (setCwp w s).y = s.y ∧ (setCwp w s).iccr = s.iccr ∧ (setCwp w s).diag = s.diag ∧
    (setCwp w s).fpu = s.fpu ∧ (setCwp w s).cp = s.cp ∧
    (setCwp w s).delays = { s.delays with psr := { s.delays.psr with cwp := false } } ∧
    (setCwp w s).mode = s.mode ∧ (setCwp w s).inputs = s.inputs ∧ (setCwp w s).schedule = s.schedule ∧
    (setCwp w s).stale = s.stale ∧ (setCwp w s).mem = s.mem ∧ (setCwp w s).busLock = s.busLock ∧
    (setCwp w s).draws = s.draws ∧ (setCwp w s).cfg = s.cfg :=
  ⟨rfl, rfl, rfl, rfl, rfl, rfl, rfl, rfl, rfl, rfl, rfl, rfl, rfl, rfl, rfl, rfl, rfl, rfl, rfl, rfl, rfl⟩

@[simp] theorem setY_fields (v : Word) (s : State) :
    (setY v s).regs = s.regs ∧ (setY v s).pc = s.pc ∧ (setY v s).npc = s.npc ∧ (setY v s).annul = s.annul ∧
    (setY v s).psr = s.psr ∧ (setY v s).wim = s.wim ∧ (setY v s).tbr = s.tbr ∧ (setY v s).y = v ∧
    (setY v s).iccr = s.iccr ∧ (setY v s).diag = s.diag ∧ (setY v s).fpu = s.fpu ∧ (setY v s).cp = s.cp ∧
    (setY v s).delays = { s.delays with y := { s.delays.y with masked := false } } ∧ (setY v s).mode = s.mode ∧
    (setY v s).inputs = s.inputs ∧ (setY v s).schedule = s.schedule ∧ (setY v s).stale = s.stale ∧
    (setY v s).mem = s.mem ∧ (setY v s).busLock = s.busLock ∧ (setY v s).draws = s.draws ∧
    (setY v s).cfg = s.cfg :=
  ⟨rfl, rfl, rfl, rfl, rfl, rfl, rfl, rfl, rfl, rfl, rfl, rfl, rfl, rfl, rfl, rfl, rfl, rfl, rfl, rfl, rfl⟩

@[simp] theorem writeRegIn_fields (w : WindowNum) (i : RegNum) (v : Word) (s : State) :
    (writeRegIn w i v s).pc = s.pc ∧ (writeRegIn w i v s).npc = s.npc ∧ (writeRegIn w i v s).annul = s.annul ∧
    (writeRegIn w i v s).psr = s.psr ∧ (writeRegIn w i v s).wim = s.wim ∧ (writeRegIn w i v s).tbr = s.tbr ∧
    (writeRegIn w i v s).y = s.y ∧ (writeRegIn w i v s).iccr = s.iccr ∧ (writeRegIn w i v s).diag = s.diag ∧
    (writeRegIn w i v s).fpu = s.fpu ∧ (writeRegIn w i v s).cp = s.cp ∧ (writeRegIn w i v s).delays = s.delays ∧
    (writeRegIn w i v s).mode = s.mode ∧ (writeRegIn w i v s).inputs = s.inputs ∧
    (writeRegIn w i v s).schedule = s.schedule ∧ (writeRegIn w i v s).stale = s.stale ∧
    (writeRegIn w i v s).mem = s.mem ∧ (writeRegIn w i v s).busLock = s.busLock ∧
    (writeRegIn w i v s).draws = s.draws ∧ (writeRegIn w i v s).cfg = s.cfg :=
  by unfold writeRegIn; split <;> simp

@[simp] theorem writeReg_fields (slot : Slot) (i : RegNum) (v : Word) (s : State) :
    (writeReg slot i v s).pc = s.pc ∧ (writeReg slot i v s).npc = s.npc ∧ (writeReg slot i v s).annul = s.annul ∧
    (writeReg slot i v s).psr = s.psr ∧ (writeReg slot i v s).wim = s.wim ∧ (writeReg slot i v s).tbr = s.tbr ∧
    (writeReg slot i v s).y = s.y ∧ (writeReg slot i v s).iccr = s.iccr ∧ (writeReg slot i v s).diag = s.diag ∧
    (writeReg slot i v s).fpu = s.fpu ∧ (writeReg slot i v s).cp = s.cp ∧
    (writeReg slot i v s).delays = s.delays ∧ (writeReg slot i v s).mode = s.mode ∧
    (writeReg slot i v s).inputs = s.inputs ∧ (writeReg slot i v s).schedule = s.schedule ∧
    (writeReg slot i v s).stale = s.stale ∧ (writeReg slot i v s).mem = s.mem ∧
    (writeReg slot i v s).busLock = s.busLock ∧ (writeReg slot i v s).draws = s.draws ∧
    (writeReg slot i v s).cfg = s.cfg :=
  by unfold writeReg; simp

@[simp] theorem writePair_fields (rd : RegNum) (hi lo : Word) (s : State) :
    (writePair rd hi lo s).pc = s.pc ∧ (writePair rd hi lo s).npc = s.npc ∧
    (writePair rd hi lo s).annul = s.annul ∧ (writePair rd hi lo s).psr = s.psr ∧
    (writePair rd hi lo s).wim = s.wim ∧ (writePair rd hi lo s).tbr = s.tbr ∧ (writePair rd hi lo s).y = s.y ∧
    (writePair rd hi lo s).iccr = s.iccr ∧ (writePair rd hi lo s).diag = s.diag ∧
    (writePair rd hi lo s).fpu = s.fpu ∧ (writePair rd hi lo s).cp = s.cp ∧
    (writePair rd hi lo s).delays = s.delays ∧ (writePair rd hi lo s).mode = s.mode ∧
    (writePair rd hi lo s).inputs = s.inputs ∧ (writePair rd hi lo s).schedule = s.schedule ∧
    (writePair rd hi lo s).stale = s.stale ∧ (writePair rd hi lo s).mem = s.mem ∧
    (writePair rd hi lo s).busLock = s.busLock ∧ (writePair rd hi lo s).draws = s.draws ∧
    (writePair rd hi lo s).cfg = s.cfg :=
  by unfold writePair; simp

@[simp] theorem enterErrorMode_fields (t : TrapType) (s : State) :
    (enterErrorMode t s).regs = s.regs ∧ (enterErrorMode t s).pc = s.pc ∧ (enterErrorMode t s).npc = s.npc ∧
    (enterErrorMode t s).annul = s.annul ∧ (enterErrorMode t s).psr = s.psr ∧ (enterErrorMode t s).wim = s.wim ∧
    (enterErrorMode t s).tbr = { s.tbr with tt := trapCode t } ∧ (enterErrorMode t s).y = s.y ∧
    (enterErrorMode t s).iccr = s.iccr ∧ (enterErrorMode t s).diag = s.diag ∧ (enterErrorMode t s).fpu = s.fpu ∧
    (enterErrorMode t s).cp = s.cp ∧ (enterErrorMode t s).delays = s.delays ∧
    (enterErrorMode t s).mode = .error ∧ (enterErrorMode t s).inputs = s.inputs ∧
    (enterErrorMode t s).schedule = s.schedule ∧ (enterErrorMode t s).stale = s.stale ∧
    (enterErrorMode t s).mem = s.mem ∧ (enterErrorMode t s).busLock = s.busLock ∧
    (enterErrorMode t s).draws = s.draws ∧ (enterErrorMode t s).cfg = s.cfg :=
  ⟨rfl, rfl, rfl, rfl, rfl, rfl, rfl, rfl, rfl, rfl, rfl, rfl, rfl, rfl, rfl, rfl, rfl, rfl, rfl, rfl, rfl⟩

@[simp] theorem trapEntry_fields (t : TrapType) (s : State) :
    (trapEntry t s).pc = vectorAddress (tbaForTrap s) (trapCode t) ∧
    (trapEntry t s).npc = vectorAddress (tbaForTrap s) (trapCode t) + 4#32 ∧ (trapEntry t s).annul = false ∧
    (trapEntry t s).psr = { s.psr with et := false, ps := s.psr.s, cwp := s.psr.cwp - 1#3, s := true } ∧
    (trapEntry t s).wim = s.wim ∧ (trapEntry t s).tbr = { s.tbr with tt := trapCode t } ∧
    (trapEntry t s).y = s.y ∧ (trapEntry t s).iccr = s.iccr ∧ (trapEntry t s).diag = s.diag ∧
    (trapEntry t s).fpu = s.fpu ∧ (trapEntry t s).cp = s.cp ∧ (trapEntry t s).delays = noDelays ∧
    (trapEntry t s).mode = s.mode ∧ (trapEntry t s).inputs = s.inputs ∧ (trapEntry t s).schedule = s.schedule ∧
    (trapEntry t s).stale = s.stale ∧ (trapEntry t s).mem = s.mem ∧ (trapEntry t s).busLock = s.busLock ∧
    (trapEntry t s).draws = s.draws ∧ (trapEntry t s).cfg = s.cfg :=
  by simp [trapEntry]

@[simp] theorem resetTrap_fields (s : State) :
    (resetTrap s).regs = s.regs ∧ (resetTrap s).pc = 0#32 ∧ (resetTrap s).npc = 4#32 ∧
    (resetTrap s).annul = false ∧ (resetTrap s).psr = { s.psr with s := true, et := false } ∧
    (resetTrap s).wim = s.wim ∧ (resetTrap s).tbr = s.tbr ∧ (resetTrap s).y = s.y ∧
    (resetTrap s).iccr = s.cfg.iccrReset ∧ (resetTrap s).diag = s.diag ∧
    (resetTrap s).fpu = { s.fpu with queue := [], mode := .execute } ∧ (resetTrap s).cp = s.cp ∧
    (resetTrap s).delays = noDelays ∧ (resetTrap s).mode = .run ∧ (resetTrap s).inputs = s.inputs ∧
    (resetTrap s).schedule = s.schedule ∧ (resetTrap s).stale = s.stale ∧ (resetTrap s).mem = s.mem ∧
    (resetTrap s).busLock = s.busLock ∧ (resetTrap s).draws = s.draws ∧ (resetTrap s).cfg = s.cfg :=
  ⟨rfl, rfl, rfl, rfl, rfl, rfl, rfl, rfl, rfl, rfl, rfl, rfl, rfl, rfl, rfl, rfl, rfl, rfl, rfl, rfl, rfl⟩

@[simp] theorem annulNext_fields (s : State) :
    (annulNext s).regs = s.regs ∧ (annulNext s).pc = s.pc ∧ (annulNext s).npc = s.npc ∧
    (annulNext s).annul = true ∧ (annulNext s).psr = s.psr ∧ (annulNext s).wim = s.wim ∧
    (annulNext s).tbr = s.tbr ∧ (annulNext s).y = s.y ∧ (annulNext s).iccr = s.iccr ∧
    (annulNext s).diag = s.diag ∧ (annulNext s).fpu = s.fpu ∧ (annulNext s).cp = s.cp ∧
    (annulNext s).delays = s.delays ∧ (annulNext s).mode = s.mode ∧ (annulNext s).inputs = s.inputs ∧
    (annulNext s).schedule = s.schedule ∧ (annulNext s).stale = s.stale ∧ (annulNext s).mem = s.mem ∧
    (annulNext s).busLock = s.busLock ∧ (annulNext s).draws = s.draws ∧ (annulNext s).cfg = s.cfg :=
  ⟨rfl, rfl, rfl, rfl, rfl, rfl, rfl, rfl, rfl, rfl, rfl, rfl, rfl, rfl, rfl, rfl, rfl, rfl, rfl, rfl, rfl⟩

@[simp] theorem atomicBegin_fields (s : State) :
    (atomicBegin s).regs = s.regs ∧ (atomicBegin s).pc = s.pc ∧ (atomicBegin s).npc = s.npc ∧
    (atomicBegin s).annul = s.annul ∧ (atomicBegin s).psr = s.psr ∧ (atomicBegin s).wim = s.wim ∧
    (atomicBegin s).tbr = s.tbr ∧ (atomicBegin s).y = s.y ∧ (atomicBegin s).iccr = s.iccr ∧
    (atomicBegin s).diag = s.diag ∧ (atomicBegin s).fpu = s.fpu ∧ (atomicBegin s).cp = s.cp ∧
    (atomicBegin s).delays = s.delays ∧ (atomicBegin s).mode = s.mode ∧ (atomicBegin s).inputs = s.inputs ∧
    (atomicBegin s).schedule = s.schedule ∧ (atomicBegin s).stale = s.stale ∧ (atomicBegin s).mem = s.mem ∧
    (atomicBegin s).busLock = true ∧ (atomicBegin s).draws = s.draws ∧ (atomicBegin s).cfg = s.cfg :=
  ⟨rfl, rfl, rfl, rfl, rfl, rfl, rfl, rfl, rfl, rfl, rfl, rfl, rfl, rfl, rfl, rfl, rfl, rfl, rfl, rfl, rfl⟩

@[simp] theorem atomicEnd_fields (s : State) :
    (atomicEnd s).regs = s.regs ∧ (atomicEnd s).pc = s.pc ∧ (atomicEnd s).npc = s.npc ∧
    (atomicEnd s).annul = s.annul ∧ (atomicEnd s).psr = s.psr ∧ (atomicEnd s).wim = s.wim ∧
    (atomicEnd s).tbr = s.tbr ∧ (atomicEnd s).y = s.y ∧ (atomicEnd s).iccr = s.iccr ∧
    (atomicEnd s).diag = s.diag ∧ (atomicEnd s).fpu = s.fpu ∧ (atomicEnd s).cp = s.cp ∧
    (atomicEnd s).delays = s.delays ∧ (atomicEnd s).mode = s.mode ∧ (atomicEnd s).inputs = s.inputs ∧
    (atomicEnd s).schedule = s.schedule ∧ (atomicEnd s).stale = s.stale ∧ (atomicEnd s).mem = s.mem ∧
    (atomicEnd s).busLock = false ∧ (atomicEnd s).draws = s.draws ∧ (atomicEnd s).cfg = s.cfg :=
  ⟨rfl, rfl, rfl, rfl, rfl, rfl, rfl, rfl, rfl, rfl, rfl, rfl, rfl, rfl, rfl, rfl, rfl, rfl, rfl, rfl, rfl⟩

@[simp] theorem putByte_fields (asi : Asi) (addr : Word) (b : Byte) (s : State) :
    (putByte asi addr b s).regs = s.regs ∧ (putByte asi addr b s).pc = s.pc ∧
    (putByte asi addr b s).npc = s.npc ∧ (putByte asi addr b s).annul = s.annul ∧
    (putByte asi addr b s).psr = s.psr ∧ (putByte asi addr b s).wim = s.wim ∧
    (putByte asi addr b s).tbr = s.tbr ∧ (putByte asi addr b s).y = s.y ∧ (putByte asi addr b s).iccr = s.iccr ∧
    (putByte asi addr b s).diag = s.diag ∧ (putByte asi addr b s).fpu = s.fpu ∧
    (putByte asi addr b s).cp = s.cp ∧ (putByte asi addr b s).delays = s.delays ∧
    (putByte asi addr b s).mode = s.mode ∧ (putByte asi addr b s).inputs = s.inputs ∧
    (putByte asi addr b s).schedule = s.schedule ∧ (putByte asi addr b s).stale = s.stale ∧
    (putByte asi addr b s).busLock = s.busLock ∧ (putByte asi addr b s).draws = s.draws ∧
    (putByte asi addr b s).cfg = s.cfg :=
  by unfold putByte; split <;> simp

@[simp] theorem noteStale_fields (asi : Asi) (addr : Word) (before : State) (s : State) :
    (noteStale asi addr before s).regs = s.regs ∧ (noteStale asi addr before s).pc = s.pc ∧
    (noteStale asi addr before s).npc = s.npc ∧ (noteStale asi addr before s).annul = s.annul ∧
    (noteStale asi addr before s).psr = s.psr ∧ (noteStale asi addr before s).wim = s.wim ∧
    (noteStale asi addr before s).tbr = s.tbr ∧ (noteStale asi addr before s).y = s.y ∧
    (noteStale asi addr before s).iccr = s.iccr ∧ (noteStale asi addr before s).diag = s.diag ∧
    (noteStale asi addr before s).fpu = s.fpu ∧ (noteStale asi addr before s).cp = s.cp ∧
    (noteStale asi addr before s).delays = s.delays ∧ (noteStale asi addr before s).mode = s.mode ∧
    (noteStale asi addr before s).inputs = s.inputs ∧ (noteStale asi addr before s).schedule = s.schedule ∧
    (noteStale asi addr before s).mem = s.mem ∧ (noteStale asi addr before s).busLock = s.busLock ∧
    (noteStale asi addr before s).draws = s.draws ∧ (noteStale asi addr before s).cfg = s.cfg :=
  by unfold noteStale; split <;> simp

@[simp] theorem storeByte_fields (asi : Asi) (addr : Word) (v : Byte) (s : State) :
    (storeByte asi addr v s).regs = s.regs ∧ (storeByte asi addr v s).pc = s.pc ∧
    (storeByte asi addr v s).npc = s.npc ∧ (storeByte asi addr v s).annul = s.annul ∧
    (storeByte asi addr v s).psr = s.psr ∧ (storeByte asi addr v s).wim = s.wim ∧
    (storeByte asi addr v s).tbr = s.tbr ∧ (storeByte asi addr v s).y = s.y ∧
    (storeByte asi addr v s).iccr = s.iccr ∧ (storeByte asi addr v s).diag = s.diag ∧
    (storeByte asi addr v s).fpu = s.fpu ∧ (storeByte asi addr v s).cp = s.cp ∧
    (storeByte asi addr v s).delays = s.delays ∧ (storeByte asi addr v s).mode = s.mode ∧
    (storeByte asi addr v s).inputs = s.inputs ∧ (storeByte asi addr v s).schedule = s.schedule ∧
    (storeByte asi addr v s).busLock = s.busLock ∧ (storeByte asi addr v s).draws = s.draws ∧
    (storeByte asi addr v s).cfg = s.cfg :=
  by unfold storeByte; simp

@[simp] theorem storeHalf_fields (asi : Asi) (addr : Word) (v : BitVec 16) (s : State) :
    (storeHalf asi addr v s).regs = s.regs ∧ (storeHalf asi addr v s).pc = s.pc ∧
    (storeHalf asi addr v s).npc = s.npc ∧ (storeHalf asi addr v s).annul = s.annul ∧
    (storeHalf asi addr v s).psr = s.psr ∧ (storeHalf asi addr v s).wim = s.wim ∧
    (storeHalf asi addr v s).tbr = s.tbr ∧ (storeHalf asi addr v s).y = s.y ∧
    (storeHalf asi addr v s).iccr = s.iccr ∧ (storeHalf asi addr v s).diag = s.diag ∧
    (storeHalf asi addr v s).fpu = s.fpu ∧ (storeHalf asi addr v s).cp = s.cp ∧
    (storeHalf asi addr v s).delays = s.delays ∧ (storeHalf asi addr v s).mode = s.mode ∧
    (storeHalf asi addr v s).inputs = s.inputs ∧ (storeHalf asi addr v s).schedule = s.schedule ∧
    (storeHalf asi addr v s).busLock = s.busLock ∧ (storeHalf asi addr v s).draws = s.draws ∧
    (storeHalf asi addr v s).cfg = s.cfg :=
  by unfold storeHalf; simp

@[simp] theorem storeWord_fields (asi : Asi) (addr : Word) (v : Word) (s : State) :
    (storeWord asi addr v s).regs = s.regs ∧ (storeWord asi addr v s).pc = s.pc ∧
    (storeWord asi addr v s).npc = s.npc ∧ (storeWord asi addr v s).annul = s.annul ∧
    (storeWord asi addr v s).psr = s.psr ∧ (storeWord asi addr v s).wim = s.wim ∧
    (storeWord asi addr v s).tbr = s.tbr ∧ (storeWord asi addr v s).y = s.y ∧
    (storeWord asi addr v s).iccr = s.iccr ∧ (storeWord asi addr v s).diag = s.diag ∧
    (storeWord asi addr v s).fpu = s.fpu ∧ (storeWord asi addr v s).cp = s.cp ∧
    (storeWord asi addr v s).delays = s.delays ∧ (storeWord asi addr v s).mode = s.mode ∧
    (storeWord asi addr v s).inputs = s.inputs ∧ (storeWord asi addr v s).schedule = s.schedule ∧
    (storeWord asi addr v s).busLock = s.busLock ∧ (storeWord asi addr v s).draws = s.draws ∧
    (storeWord asi addr v s).cfg = s.cfg :=
  by unfold storeWord; simp

@[simp] theorem storeDouble_fields (asi : Asi) (addr hi lo : Word) (s : State) :
    (storeDouble asi addr hi lo s).regs = s.regs ∧ (storeDouble asi addr hi lo s).pc = s.pc ∧
    (storeDouble asi addr hi lo s).npc = s.npc ∧ (storeDouble asi addr hi lo s).annul = s.annul ∧
    (storeDouble asi addr hi lo s).psr = s.psr ∧ (storeDouble asi addr hi lo s).wim = s.wim ∧
    (storeDouble asi addr hi lo s).tbr = s.tbr ∧ (storeDouble asi addr hi lo s).y = s.y ∧
    (storeDouble asi addr hi lo s).iccr = s.iccr ∧ (storeDouble asi addr hi lo s).diag = s.diag ∧
    (storeDouble asi addr hi lo s).fpu = s.fpu ∧ (storeDouble asi addr hi lo s).cp = s.cp ∧
    (storeDouble asi addr hi lo s).delays = s.delays ∧ (storeDouble asi addr hi lo s).mode = s.mode ∧
    (storeDouble asi addr hi lo s).inputs = s.inputs ∧ (storeDouble asi addr hi lo s).schedule = s.schedule ∧
    (storeDouble asi addr hi lo s).busLock = s.busLock ∧ (storeDouble asi addr hi lo s).draws = s.draws ∧
    (storeDouble asi addr hi lo s).cfg = s.cfg :=
  by unfold storeDouble; simp

@[simp] theorem storePair_fields (asi : Asi) (addr : Word) (rd : RegNum) (s : State) :
    (storePair asi addr rd s).regs = s.regs ∧ (storePair asi addr rd s).pc = s.pc ∧
    (storePair asi addr rd s).npc = s.npc ∧ (storePair asi addr rd s).annul = s.annul ∧
    (storePair asi addr rd s).psr = s.psr ∧ (storePair asi addr rd s).wim = s.wim ∧
    (storePair asi addr rd s).tbr = s.tbr ∧ (storePair asi addr rd s).y = s.y ∧
    (storePair asi addr rd s).iccr = s.iccr ∧ (storePair asi addr rd s).diag = s.diag ∧
    (storePair asi addr rd s).fpu = s.fpu ∧ (storePair asi addr rd s).cp = s.cp ∧
    (storePair asi addr rd s).delays = s.delays ∧ (storePair asi addr rd s).mode = s.mode ∧
    (storePair asi addr rd s).inputs = s.inputs ∧ (storePair asi addr rd s).schedule = s.schedule ∧
    (storePair asi addr rd s).busLock = s.busLock ∧ (storePair asi addr rd s).draws = s.draws ∧
    (storePair asi addr rd s).cfg = s.cfg :=
  by unfold storePair; simp

@[simp] theorem flushDouble_fields (ea : Word) (s : State) :
    (flushDouble ea s).regs = s.regs ∧ (flushDouble ea s).pc = s.pc ∧ (flushDouble ea s).npc = s.npc ∧
    (flushDouble ea s).annul = s.annul ∧ (flushDouble ea s).psr = s.psr ∧ (flushDouble ea s).wim = s.wim ∧
    (flushDouble ea s).tbr = s.tbr ∧ (flushDouble ea s).y = s.y ∧ (flushDouble ea s).iccr = s.iccr ∧
    (flushDouble ea s).diag = s.diag ∧ (flushDouble ea s).fpu = s.fpu ∧ (flushDouble ea s).cp = s.cp ∧
    (flushDouble ea s).delays = s.delays ∧ (flushDouble ea s).mode = s.mode ∧
    (flushDouble ea s).inputs = s.inputs ∧ (flushDouble ea s).schedule = s.schedule ∧
    (flushDouble ea s).mem = s.mem ∧ (flushDouble ea s).busLock = s.busLock ∧
    (flushDouble ea s).draws = s.draws ∧ (flushDouble ea s).cfg = s.cfg :=
  by simp [flushDouble]

@[simp] theorem writeF_fields (n : RegNum) (v : Word) (s : State) :
    (writeF n v s).regs = s.regs ∧ (writeF n v s).pc = s.pc ∧ (writeF n v s).npc = s.npc ∧
    (writeF n v s).annul = s.annul ∧ (writeF n v s).psr = s.psr ∧ (writeF n v s).wim = s.wim ∧
    (writeF n v s).tbr = s.tbr ∧ (writeF n v s).y = s.y ∧ (writeF n v s).iccr = s.iccr ∧
    (writeF n v s).diag = s.diag ∧ (writeF n v s).fpu = { s.fpu with f := s.fpu.f.set n.toNat v n.isLt } ∧
    (writeF n v s).cp = s.cp ∧ (writeF n v s).delays = s.delays ∧ (writeF n v s).mode = s.mode ∧
    (writeF n v s).inputs = s.inputs ∧ (writeF n v s).schedule = s.schedule ∧ (writeF n v s).stale = s.stale ∧
    (writeF n v s).mem = s.mem ∧ (writeF n v s).busLock = s.busLock ∧ (writeF n v s).draws = s.draws ∧
    (writeF n v s).cfg = s.cfg :=
  ⟨rfl, rfl, rfl, rfl, rfl, rfl, rfl, rfl, rfl, rfl, rfl, rfl, rfl, rfl, rfl, rfl, rfl, rfl, rfl, rfl, rfl⟩

@[simp] theorem setFtt_fields (v : BitVec 3) (s : State) :
    (setFtt v s).regs = s.regs ∧ (setFtt v s).pc = s.pc ∧ (setFtt v s).npc = s.npc ∧
    (setFtt v s).annul = s.annul ∧ (setFtt v s).psr = s.psr ∧ (setFtt v s).wim = s.wim ∧
    (setFtt v s).tbr = s.tbr ∧ (setFtt v s).y = s.y ∧ (setFtt v s).iccr = s.iccr ∧ (setFtt v s).diag = s.diag ∧
    (setFtt v s).fpu = { s.fpu with fsr := { s.fpu.fsr with ftt := v } } ∧ (setFtt v s).cp = s.cp ∧
    (setFtt v s).delays = s.delays ∧ (setFtt v s).mode = s.mode ∧ (setFtt v s).inputs = s.inputs ∧
    (setFtt v s).schedule = s.schedule ∧ (setFtt v s).stale = s.stale ∧ (setFtt v s).mem = s.mem ∧
    (setFtt v s).busLock = s.busLock ∧ (setFtt v s).draws = s.draws ∧ (setFtt v s).cfg = s.cfg :=
  ⟨rfl, rfl, rfl, rfl, rfl, rfl, rfl, rfl, rfl, rfl, rfl, rfl, rfl, rfl, rfl, rfl, rfl, rfl, rfl, rfl, rfl⟩

@[simp] theorem setFpuMode_fields (m : FpuMode) (s : State) :
    (setFpuMode m s).regs = s.regs ∧ (setFpuMode m s).pc = s.pc ∧ (setFpuMode m s).npc = s.npc ∧
    (setFpuMode m s).annul = s.annul ∧ (setFpuMode m s).psr = s.psr ∧ (setFpuMode m s).wim = s.wim ∧
    (setFpuMode m s).tbr = s.tbr ∧ (setFpuMode m s).y = s.y ∧ (setFpuMode m s).iccr = s.iccr ∧
    (setFpuMode m s).diag = s.diag ∧ (setFpuMode m s).fpu = { s.fpu with mode := m } ∧
    (setFpuMode m s).cp = s.cp ∧ (setFpuMode m s).delays = s.delays ∧ (setFpuMode m s).mode = s.mode ∧
    (setFpuMode m s).inputs = s.inputs ∧ (setFpuMode m s).schedule = s.schedule ∧
    (setFpuMode m s).stale = s.stale ∧ (setFpuMode m s).mem = s.mem ∧ (setFpuMode m s).busLock = s.busLock ∧
    (setFpuMode m s).draws = s.draws ∧ (setFpuMode m s).cfg = s.cfg :=
  ⟨rfl, rfl, rfl, rfl, rfl, rfl, rfl, rfl, rfl, rfl, rfl, rfl, rfl, rfl, rfl, rfl, rfl, rfl, rfl, rfl, rfl⟩

@[simp] theorem setCexc_fields (v : BitVec 5) (s : State) :
    (setCexc v s).regs = s.regs ∧ (setCexc v s).pc = s.pc ∧ (setCexc v s).npc = s.npc ∧
    (setCexc v s).annul = s.annul ∧ (setCexc v s).psr = s.psr ∧ (setCexc v s).wim = s.wim ∧
    (setCexc v s).tbr = s.tbr ∧ (setCexc v s).y = s.y ∧ (setCexc v s).iccr = s.iccr ∧
    (setCexc v s).diag = s.diag ∧ (setCexc v s).fpu = { s.fpu with fsr := { s.fpu.fsr with cexc := v } } ∧
    (setCexc v s).cp = s.cp ∧ (setCexc v s).delays = s.delays ∧ (setCexc v s).mode = s.mode ∧
    (setCexc v s).inputs = s.inputs ∧ (setCexc v s).schedule = s.schedule ∧ (setCexc v s).stale = s.stale ∧
    (setCexc v s).mem = s.mem ∧ (setCexc v s).busLock = s.busLock ∧ (setCexc v s).draws = s.draws ∧
    (setCexc v s).cfg = s.cfg :=
  ⟨rfl, rfl, rfl, rfl, rfl, rfl, rfl, rfl, rfl, rfl, rfl, rfl, rfl, rfl, rfl, rfl, rfl, rfl, rfl, rfl, rfl⟩

@[simp] theorem accrueExceptions_fields (exc : BitVec 5) (s : State) :
    (accrueExceptions exc s).regs = s.regs ∧ (accrueExceptions exc s).pc = s.pc ∧
    (accrueExceptions exc s).npc = s.npc ∧ (accrueExceptions exc s).annul = s.annul ∧
    (accrueExceptions exc s).psr = s.psr ∧ (accrueExceptions exc s).wim = s.wim ∧
    (accrueExceptions exc s).tbr = s.tbr ∧ (accrueExceptions exc s).y = s.y ∧
    (accrueExceptions exc s).iccr = s.iccr ∧ (accrueExceptions exc s).diag = s.diag ∧
    (accrueExceptions exc s).fpu = { s.fpu with fsr := { s.fpu.fsr with cexc := exc, aexc := s.fpu.fsr.aexc ||| exc, ftt := 0#3 } } ∧
    (accrueExceptions exc s).cp = s.cp ∧ (accrueExceptions exc s).delays = s.delays ∧
    (accrueExceptions exc s).mode = s.mode ∧ (accrueExceptions exc s).inputs = s.inputs ∧
    (accrueExceptions exc s).schedule = s.schedule ∧ (accrueExceptions exc s).stale = s.stale ∧
    (accrueExceptions exc s).mem = s.mem ∧ (accrueExceptions exc s).busLock = s.busLock ∧
    (accrueExceptions exc s).draws = s.draws ∧ (accrueExceptions exc s).cfg = s.cfg :=
  ⟨rfl, rfl, rfl, rfl, rfl, rfl, rfl, rfl, rfl, rfl, rfl, rfl, rfl, rfl, rfl, rfl, rfl, rfl, rfl, rfl, rfl⟩

@[simp] theorem queueFpop_fields (ftt : BitVec 3) (word : Word) (s : State) :
    (queueFpop ftt word s).regs = s.regs ∧ (queueFpop ftt word s).pc = s.pc ∧
    (queueFpop ftt word s).npc = s.npc ∧ (queueFpop ftt word s).annul = s.annul ∧
    (queueFpop ftt word s).psr = s.psr ∧ (queueFpop ftt word s).wim = s.wim ∧
    (queueFpop ftt word s).tbr = s.tbr ∧ (queueFpop ftt word s).y = s.y ∧ (queueFpop ftt word s).iccr = s.iccr ∧
    (queueFpop ftt word s).diag = s.diag ∧
    (queueFpop ftt word s).fpu = { s.fpu with fsr := { s.fpu.fsr with ftt := ftt }, queue := s.fpu.queue ++ [{ addr := s.pc, instr := word }], mode := .exceptionPending } ∧
    (queueFpop ftt word s).cp = s.cp ∧ (queueFpop ftt word s).delays = s.delays ∧
    (queueFpop ftt word s).mode = s.mode ∧ (queueFpop ftt word s).inputs = s.inputs ∧
    (queueFpop ftt word s).schedule = s.schedule ∧ (queueFpop ftt word s).stale = s.stale ∧
    (queueFpop ftt word s).mem = s.mem ∧ (queueFpop ftt word s).busLock = s.busLock ∧
    (queueFpop ftt word s).draws = s.draws ∧ (queueFpop ftt word s).cfg = s.cfg :=
  ⟨rfl, rfl, rfl, rfl, rfl, rfl, rfl, rfl, rfl, rfl, rfl, rfl, rfl, rfl, rfl, rfl, rfl, rfl, rfl, rfl, rfl⟩

@[simp] theorem advanceQueue_fields (s : State) :
    (advanceQueue s).regs = s.regs ∧ (advanceQueue s).pc = s.pc ∧ (advanceQueue s).npc = s.npc ∧
    (advanceQueue s).annul = s.annul ∧ (advanceQueue s).psr = s.psr ∧ (advanceQueue s).wim = s.wim ∧
    (advanceQueue s).tbr = s.tbr ∧ (advanceQueue s).y = s.y ∧ (advanceQueue s).iccr = s.iccr ∧
    (advanceQueue s).diag = s.diag ∧ (advanceQueue s).cp = s.cp ∧ (advanceQueue s).delays = s.delays ∧
    (advanceQueue s).mode = s.mode ∧ (advanceQueue s).inputs = s.inputs ∧
    (advanceQueue s).schedule = s.schedule ∧ (advanceQueue s).stale = s.stale ∧ (advanceQueue s).mem = s.mem ∧
    (advanceQueue s).busLock = s.busLock ∧ (advanceQueue s).draws = s.draws ∧ (advanceQueue s).cfg = s.cfg :=
  by unfold advanceQueue; split <;> simp

@[simp] theorem writeFp_fields (k : FpKind) (n : RegNum) (bits : Nat) (s : State) :
    (writeFp k n bits s).regs = s.regs ∧ (writeFp k n bits s).pc = s.pc ∧ (writeFp k n bits s).npc = s.npc ∧
    (writeFp k n bits s).annul = s.annul ∧ (writeFp k n bits s).psr = s.psr ∧ (writeFp k n bits s).wim = s.wim ∧
    (writeFp k n bits s).tbr = s.tbr ∧ (writeFp k n bits s).y = s.y ∧ (writeFp k n bits s).iccr = s.iccr ∧
    (writeFp k n bits s).diag = s.diag ∧ (writeFp k n bits s).cp = s.cp ∧
    (writeFp k n bits s).delays = s.delays ∧ (writeFp k n bits s).mode = s.mode ∧
    (writeFp k n bits s).inputs = s.inputs ∧ (writeFp k n bits s).schedule = s.schedule ∧
    (writeFp k n bits s).stale = s.stale ∧ (writeFp k n bits s).mem = s.mem ∧
    (writeFp k n bits s).busLock = s.busLock ∧ (writeFp k n bits s).draws = s.draws ∧
    (writeFp k n bits s).cfg = s.cfg :=
  by unfold writeFp; cases k <;> simp

@[simp] theorem writeFpResult_fields (op : FpOp) (rd : RegNum) (bits : Nat) (s : State) :
    (writeFpResult op rd bits s).regs = s.regs ∧ (writeFpResult op rd bits s).pc = s.pc ∧
    (writeFpResult op rd bits s).npc = s.npc ∧ (writeFpResult op rd bits s).annul = s.annul ∧
    (writeFpResult op rd bits s).psr = s.psr ∧ (writeFpResult op rd bits s).wim = s.wim ∧
    (writeFpResult op rd bits s).tbr = s.tbr ∧ (writeFpResult op rd bits s).y = s.y ∧
    (writeFpResult op rd bits s).iccr = s.iccr ∧ (writeFpResult op rd bits s).diag = s.diag ∧
    (writeFpResult op rd bits s).cp = s.cp ∧ (writeFpResult op rd bits s).delays = s.delays ∧
    (writeFpResult op rd bits s).mode = s.mode ∧ (writeFpResult op rd bits s).inputs = s.inputs ∧
    (writeFpResult op rd bits s).schedule = s.schedule ∧ (writeFpResult op rd bits s).stale = s.stale ∧
    (writeFpResult op rd bits s).mem = s.mem ∧ (writeFpResult op rd bits s).busLock = s.busLock ∧
    (writeFpResult op rd bits s).draws = s.draws ∧ (writeFpResult op rd bits s).cfg = s.cfg :=
  by unfold writeFpResult; split <;> simp

@[simp] theorem finishFpop_fields (op : FpOp) (rd rs1 rs2 : RegNum) (s : State) :
    (finishFpop op rd rs1 rs2 s).regs = s.regs ∧ (finishFpop op rd rs1 rs2 s).pc = s.pc ∧
    (finishFpop op rd rs1 rs2 s).npc = s.npc ∧ (finishFpop op rd rs1 rs2 s).annul = s.annul ∧
    (finishFpop op rd rs1 rs2 s).psr = s.psr ∧ (finishFpop op rd rs1 rs2 s).wim = s.wim ∧
    (finishFpop op rd rs1 rs2 s).tbr = s.tbr ∧ (finishFpop op rd rs1 rs2 s).y = s.y ∧
    (finishFpop op rd rs1 rs2 s).iccr = s.iccr ∧ (finishFpop op rd rs1 rs2 s).diag = s.diag ∧
    (finishFpop op rd rs1 rs2 s).cp = s.cp ∧ (finishFpop op rd rs1 rs2 s).delays = s.delays ∧
    (finishFpop op rd rs1 rs2 s).mode = s.mode ∧ (finishFpop op rd rs1 rs2 s).inputs = s.inputs ∧
    (finishFpop op rd rs1 rs2 s).schedule = s.schedule ∧ (finishFpop op rd rs1 rs2 s).stale = s.stale ∧
    (finishFpop op rd rs1 rs2 s).mem = s.mem ∧ (finishFpop op rd rs1 rs2 s).busLock = s.busLock ∧
    (finishFpop op rd rs1 rs2 s).draws = s.draws ∧ (finishFpop op rd rs1 rs2 s).cfg = s.cfg :=
  by unfold finishFpop; simp only; split <;> simp

@[simp] theorem writeC_fields (n : RegNum) (v : Word) (s : State) :
    (writeC n v s).regs = s.regs ∧ (writeC n v s).pc = s.pc ∧ (writeC n v s).npc = s.npc ∧
    (writeC n v s).annul = s.annul ∧ (writeC n v s).psr = s.psr ∧ (writeC n v s).wim = s.wim ∧
    (writeC n v s).tbr = s.tbr ∧ (writeC n v s).y = s.y ∧ (writeC n v s).iccr = s.iccr ∧
    (writeC n v s).diag = s.diag ∧ (writeC n v s).fpu = s.fpu ∧
    (writeC n v s).cp = { s.cp with c := s.cp.c.set n.toNat v n.isLt } ∧ (writeC n v s).delays = s.delays ∧
    (writeC n v s).mode = s.mode ∧ (writeC n v s).inputs = s.inputs ∧ (writeC n v s).schedule = s.schedule ∧
    (writeC n v s).stale = s.stale ∧ (writeC n v s).mem = s.mem ∧ (writeC n v s).busLock = s.busLock ∧
    (writeC n v s).draws = s.draws ∧ (writeC n v s).cfg = s.cfg :=
  ⟨rfl, rfl, rfl, rfl, rfl, rfl, rfl, rfl, rfl, rfl, rfl, rfl, rfl, rfl, rfl, rfl, rfl, rfl, rfl, rfl, rfl⟩

@[simp] theorem cpTrapped_fields (s : State) :
    (cpTrapped s).regs = s.regs ∧ (cpTrapped s).pc = s.pc ∧ (cpTrapped s).npc = s.npc ∧
    (cpTrapped s).annul = s.annul ∧ (cpTrapped s).psr = s.psr ∧ (cpTrapped s).wim = s.wim ∧
    (cpTrapped s).tbr = s.tbr ∧ (cpTrapped s).y = s.y ∧ (cpTrapped s).iccr = s.iccr ∧
    (cpTrapped s).diag = s.diag ∧ (cpTrapped s).fpu = s.fpu ∧
    (cpTrapped s).cp = Config.cpAfterTrap s.draws s.cp ∧ (cpTrapped s).delays = s.delays ∧
    (cpTrapped s).mode = s.mode ∧ (cpTrapped s).inputs = s.inputs ∧ (cpTrapped s).schedule = s.schedule ∧
    (cpTrapped s).stale = s.stale ∧ (cpTrapped s).mem = s.mem ∧ (cpTrapped s).busLock = s.busLock ∧
    (cpTrapped s).draws = s.draws ∧ (cpTrapped s).cfg = s.cfg :=
  ⟨rfl, rfl, rfl, rfl, rfl, rfl, rfl, rfl, rfl, rfl, rfl, rfl, rfl, rfl, rfl, rfl, rfl, rfl, rfl, rfl, rfl⟩

@[simp] theorem cpLoadTrapped_fields (load : Bool) (s : State) :
    (cpLoadTrapped load s).regs = s.regs ∧ (cpLoadTrapped load s).pc = s.pc ∧
    (cpLoadTrapped load s).npc = s.npc ∧ (cpLoadTrapped load s).annul = s.annul ∧
    (cpLoadTrapped load s).psr = s.psr ∧ (cpLoadTrapped load s).wim = s.wim ∧
    (cpLoadTrapped load s).tbr = s.tbr ∧ (cpLoadTrapped load s).y = s.y ∧ (cpLoadTrapped load s).iccr = s.iccr ∧
    (cpLoadTrapped load s).diag = s.diag ∧ (cpLoadTrapped load s).fpu = s.fpu ∧
    (cpLoadTrapped load s).delays = s.delays ∧ (cpLoadTrapped load s).mode = s.mode ∧
    (cpLoadTrapped load s).inputs = s.inputs ∧ (cpLoadTrapped load s).schedule = s.schedule ∧
    (cpLoadTrapped load s).stale = s.stale ∧ (cpLoadTrapped load s).mem = s.mem ∧
    (cpLoadTrapped load s).busLock = s.busLock ∧ (cpLoadTrapped load s).draws = s.draws ∧
    (cpLoadTrapped load s).cfg = s.cfg :=
  by unfold cpLoadTrapped; split <;> simp

@[simp] theorem coprocessorOperate_fields (word : Word) (s : State) :
    (coprocessorOperate word s).regs = s.regs ∧ (coprocessorOperate word s).pc = s.pc ∧
    (coprocessorOperate word s).npc = s.npc ∧ (coprocessorOperate word s).annul = s.annul ∧
    (coprocessorOperate word s).psr = s.psr ∧ (coprocessorOperate word s).wim = s.wim ∧
    (coprocessorOperate word s).tbr = s.tbr ∧ (coprocessorOperate word s).y = s.y ∧
    (coprocessorOperate word s).iccr = s.iccr ∧ (coprocessorOperate word s).diag = s.diag ∧
    (coprocessorOperate word s).fpu = s.fpu ∧
    (coprocessorOperate word s).cp = Config.cpOperate s.draws word s.cp ∧
    (coprocessorOperate word s).delays = s.delays ∧ (coprocessorOperate word s).mode = s.mode ∧
    (coprocessorOperate word s).inputs = s.inputs ∧ (coprocessorOperate word s).schedule = s.schedule ∧
    (coprocessorOperate word s).stale = s.stale ∧ (coprocessorOperate word s).mem = s.mem ∧
    (coprocessorOperate word s).busLock = s.busLock ∧ (coprocessorOperate word s).draws = s.draws ∧
    (coprocessorOperate word s).cfg = s.cfg :=
  ⟨rfl, rfl, rfl, rfl, rfl, rfl, rfl, rfl, rfl, rfl, rfl, rfl, rfl, rfl, rfl, rfl, rfl, rfl, rfl, rfl, rfl⟩

@[simp] theorem returnFromTrap_fields (w : WindowNum) (target : Word) (s : State) :
    (returnFromTrap w target s).regs = s.regs ∧ (returnFromTrap w target s).pc = s.npc ∧
    (returnFromTrap w target s).npc = target ∧ (returnFromTrap w target s).annul = s.annul ∧
    (returnFromTrap w target s).psr = { s.psr with et := true, s := previousSupervisor s, cwp := w } ∧
    (returnFromTrap w target s).wim = s.wim ∧ (returnFromTrap w target s).tbr = s.tbr ∧
    (returnFromTrap w target s).y = s.y ∧ (returnFromTrap w target s).iccr = s.iccr ∧
    (returnFromTrap w target s).diag = s.diag ∧ (returnFromTrap w target s).fpu = s.fpu ∧
    (returnFromTrap w target s).cp = s.cp ∧
    (returnFromTrap w target s).delays = { s.delays.tick with psr := { s.delays.psr.tick with s := false, cwp := false, oldEt := [] } } ∧
    (returnFromTrap w target s).mode = s.mode ∧ (returnFromTrap w target s).inputs = s.inputs ∧
    (returnFromTrap w target s).schedule = s.schedule ∧ (returnFromTrap w target s).stale = s.stale ∧
    (returnFromTrap w target s).mem = s.mem ∧ (returnFromTrap w target s).busLock = s.busLock ∧
    (returnFromTrap w target s).draws = s.draws ∧ (returnFromTrap w target s).cfg = s.cfg :=
  ⟨rfl, rfl, rfl, rfl, rfl, rfl, rfl, rfl, rfl, rfl, rfl, rfl, rfl, rfl, rfl, rfl, rfl, rfl, rfl, rfl, rfl⟩

@[simp] theorem delayedWriteY_fields (v : Word) (s : State) :
    (delayedWriteY v s).regs = s.regs ∧ (delayedWriteY v s).pc = s.npc ∧ (delayedWriteY v s).npc = s.npc + 4#32 ∧
    (delayedWriteY v s).annul = s.annul ∧ (delayedWriteY v s).psr = s.psr ∧ (delayedWriteY v s).wim = s.wim ∧
    (delayedWriteY v s).tbr = s.tbr ∧ (delayedWriteY v s).y = v ∧ (delayedWriteY v s).iccr = s.iccr ∧
    (delayedWriteY v s).diag = s.diag ∧ (delayedWriteY v s).fpu = s.fpu ∧ (delayedWriteY v s).cp = s.cp ∧
    (delayedWriteY v s).delays = { s.delays.tick with y := s.delays.y.write s.y v } ∧
    (delayedWriteY v s).mode = s.mode ∧ (delayedWriteY v s).inputs = s.inputs ∧
    (delayedWriteY v s).schedule = s.schedule ∧ (delayedWriteY v s).stale = s.stale ∧
    (delayedWriteY v s).mem = s.mem ∧ (delayedWriteY v s).busLock = s.busLock ∧
    (delayedWriteY v s).draws = s.draws ∧ (delayedWriteY v s).cfg = s.cfg :=
  ⟨rfl, rfl, rfl, rfl, rfl, rfl, rfl, rfl, rfl, rfl, rfl, rfl, rfl, rfl, rfl, rfl, rfl, rfl, rfl, rfl, rfl⟩

@[simp] theorem delayedWriteDiag_fields (v : Word) (s : State) :
    (delayedWriteDiag v s).regs = s.regs ∧ (delayedWriteDiag v s).pc = s.npc ∧
    (delayedWriteDiag v s).npc = s.npc + 4#32 ∧ (delayedWriteDiag v s).annul = s.annul ∧
    (delayedWriteDiag v s).psr = s.psr ∧ (delayedWriteDiag v s).wim = s.wim ∧
    (delayedWriteDiag v s).tbr = s.tbr ∧ (delayedWriteDiag v s).y = s.y ∧ (delayedWriteDiag v s).iccr = s.iccr ∧
    (delayedWriteDiag v s).diag = v ∧ (delayedWriteDiag v s).fpu = s.fpu ∧ (delayedWriteDiag v s).cp = s.cp ∧
    (delayedWriteDiag v s).delays = { s.delays.tick with diag := s.delays.diag.write s.diag v } ∧
    (delayedWriteDiag v s).mode = s.mode ∧ (delayedWriteDiag v s).inputs = s.inputs ∧
    (delayedWriteDiag v s).schedule = s.schedule ∧ (delayedWriteDiag v s).stale = s.stale ∧
    (delayedWriteDiag v s).mem = s.mem ∧ (delayedWriteDiag v s).busLock = s.busLock ∧
    (delayedWriteDiag v s).draws = s.draws ∧ (delayedWriteDiag v s).cfg = s.cfg :=
  ⟨rfl, rfl, rfl, rfl, rfl, rfl, rfl, rfl, rfl, rfl, rfl, rfl, rfl, rfl, rfl, rfl, rfl, rfl, rfl, rfl, rfl⟩

@[simp] theorem delayedWriteIccr_fields (v : Word) (s : State) :
    (delayedWriteIccr v s).regs = s.regs ∧ (delayedWriteIccr v s).pc = s.npc ∧
    (delayedWriteIccr v s).npc = s.npc + 4#32 ∧ (delayedWriteIccr v s).annul = s.annul ∧
    (delayedWriteIccr v s).psr = s.psr ∧ (delayedWriteIccr v s).wim = s.wim ∧
    (delayedWriteIccr v s).tbr = s.tbr ∧ (delayedWriteIccr v s).y = s.y ∧ (delayedWriteIccr v s).iccr = v ∧
    (delayedWriteIccr v s).diag = s.diag ∧ (delayedWriteIccr v s).fpu = s.fpu ∧
    (delayedWriteIccr v s).cp = s.cp ∧
    (delayedWriteIccr v s).delays = { s.delays.tick with iccr := s.delays.iccr.write s.cfg s.iccr v } ∧
    (delayedWriteIccr v s).mode = s.mode ∧ (delayedWriteIccr v s).inputs = s.inputs ∧
    (delayedWriteIccr v s).schedule = s.schedule ∧ (delayedWriteIccr v s).stale = s.stale ∧
    (delayedWriteIccr v s).mem = s.mem ∧ (delayedWriteIccr v s).busLock = s.busLock ∧
    (delayedWriteIccr v s).draws = s.draws ∧ (delayedWriteIccr v s).cfg = s.cfg :=
  ⟨rfl, rfl, rfl, rfl, rfl, rfl, rfl, rfl, rfl, rfl, rfl, rfl, rfl, rfl, rfl, rfl, rfl, rfl, rfl, rfl, rfl⟩

@[simp] theorem delayedWritePsr_fields (v : Psr) (s : State) :
    (delayedWritePsr v s).regs = s.regs ∧ (delayedWritePsr v s).pc = s.npc ∧
    (delayedWritePsr v s).npc = s.npc + 4#32 ∧ (delayedWritePsr v s).annul = s.annul ∧
    (delayedWritePsr v s).psr = v ∧ (delayedWritePsr v s).wim = s.wim ∧ (delayedWritePsr v s).tbr = s.tbr ∧
    (delayedWritePsr v s).y = s.y ∧ (delayedWritePsr v s).iccr = s.iccr ∧ (delayedWritePsr v s).diag = s.diag ∧
    (delayedWritePsr v s).fpu = s.fpu ∧ (delayedWritePsr v s).cp = s.cp ∧
    (delayedWritePsr v s).delays = { s.delays.tick with psr := s.delays.psr.write s.psr v } ∧
    (delayedWritePsr v s).mode = s.mode ∧ (delayedWritePsr v s).inputs = s.inputs ∧
    (delayedWritePsr v s).schedule = s.schedule ∧ (delayedWritePsr v s).stale = s.stale ∧
    (delayedWritePsr v s).mem = s.mem ∧ (delayedWritePsr v s).busLock = s.busLock ∧
    (delayedWritePsr v s).draws = s.draws ∧ (delayedWritePsr v s).cfg = s.cfg :=
  ⟨rfl, rfl, rfl, rfl, rfl, rfl, rfl, rfl, rfl, rfl, rfl, rfl, rfl, rfl, rfl, rfl, rfl, rfl, rfl, rfl, rfl⟩

@[simp] theorem delayedWriteWim_fields (v : BitVec 8) (s : State) :
    (delayedWriteWim v s).regs = s.regs ∧ (delayedWriteWim v s).pc = s.npc ∧
    (delayedWriteWim v s).npc = s.npc + 4#32 ∧ (delayedWriteWim v s).annul = s.annul ∧
    (delayedWriteWim v s).psr = s.psr ∧ (delayedWriteWim v s).wim = v ∧ (delayedWriteWim v s).tbr = s.tbr ∧
    (delayedWriteWim v s).y = s.y ∧ (delayedWriteWim v s).iccr = s.iccr ∧ (delayedWriteWim v s).diag = s.diag ∧
    (delayedWriteWim v s).fpu = s.fpu ∧ (delayedWriteWim v s).cp = s.cp ∧
    (delayedWriteWim v s).delays = { s.delays.tick with wim := s.delays.wim.write s.wim v } ∧
    (delayedWriteWim v s).mode = s.mode ∧ (delayedWriteWim v s).inputs = s.inputs ∧
    (delayedWriteWim v s).schedule = s.schedule ∧ (delayedWriteWim v s).stale = s.stale ∧
    (delayedWriteWim v s).mem = s.mem ∧ (delayedWriteWim v s).busLock = s.busLock ∧
    (delayedWriteWim v s).draws = s.draws ∧ (delayedWriteWim v s).cfg = s.cfg :=
  ⟨rfl, rfl, rfl, rfl, rfl, rfl, rfl, rfl, rfl, rfl, rfl, rfl, rfl, rfl, rfl, rfl, rfl, rfl, rfl, rfl, rfl⟩

@[simp] theorem delayedWriteTba_fields (v : BitVec 20) (s : State) :
    (delayedWriteTba v s).regs = s.regs ∧ (delayedWriteTba v s).pc = s.npc ∧
    (delayedWriteTba v s).npc = s.npc + 4#32 ∧ (delayedWriteTba v s).annul = s.annul ∧
    (delayedWriteTba v s).psr = s.psr ∧ (delayedWriteTba v s).wim = s.wim ∧
    (delayedWriteTba v s).tbr = { s.tbr with tba := v } ∧ (delayedWriteTba v s).y = s.y ∧
    (delayedWriteTba v s).iccr = s.iccr ∧ (delayedWriteTba v s).diag = s.diag ∧
    (delayedWriteTba v s).fpu = s.fpu ∧ (delayedWriteTba v s).cp = s.cp ∧
    (delayedWriteTba v s).delays = { s.delays.tick with tbr := s.delays.tbr.write s.tbr.tba v } ∧
    (delayedWriteTba v s).mode = s.mode ∧ (delayedWriteTba v s).inputs = s.inputs ∧
    (delayedWriteTba v s).schedule = s.schedule ∧ (delayedWriteTba v s).stale = s.stale ∧
    (delayedWriteTba v s).mem = s.mem ∧ (delayedWriteTba v s).busLock = s.busLock ∧
    (delayedWriteTba v s).draws = s.draws ∧ (delayedWriteTba v s).cfg = s.cfg :=
  ⟨rfl, rfl, rfl, rfl, rfl, rfl, rfl, rfl, rfl, rfl, rfl, rfl, rfl, rfl, rfl, rfl, rfl, rfl, rfl, rfl, rfl⟩

@[simp] theorem writeQuotient_fields (rd : RegNum) (q : Word) (s : State) :
    (writeQuotient rd q s).pc = s.pc ∧ (writeQuotient rd q s).npc = s.npc ∧
    (writeQuotient rd q s).annul = s.annul ∧ (writeQuotient rd q s).psr = s.psr ∧
    (writeQuotient rd q s).wim = s.wim ∧ (writeQuotient rd q s).tbr = s.tbr ∧
    (writeQuotient rd q s).y = yAfterDivide s ∧ (writeQuotient rd q s).iccr = s.iccr ∧
    (writeQuotient rd q s).diag = s.diag ∧ (writeQuotient rd q s).fpu = s.fpu ∧
    (writeQuotient rd q s).cp = s.cp ∧
    (writeQuotient rd q s).delays = { s.delays with y := { s.delays.y with masked := false } } ∧
    (writeQuotient rd q s).mode = s.mode ∧ (writeQuotient rd q s).inputs = s.inputs ∧
    (writeQuotient rd q s).schedule = s.schedule ∧ (writeQuotient rd q s).stale = s.stale ∧
    (writeQuotient rd q s).mem = s.mem ∧ (writeQuotient rd q s).busLock = s.busLock ∧
    (writeQuotient rd q s).draws = s.draws ∧ (writeQuotient rd q s).cfg = s.cfg :=
  by simp [writeQuotient]

@[simp] theorem moveWindow_fields (w : WindowNum) (rd : RegNum) (sum : Word) (s : State) :
    (moveWindow w rd sum s).pc = s.npc ∧ (moveWindow w rd sum s).npc = s.npc + 4#32 ∧
    (moveWindow w rd sum s).annul = s.annul ∧ (moveWindow w rd sum s).psr = { s.psr with cwp := w } ∧
    (moveWindow w rd sum s).wim = s.wim ∧ (moveWindow w rd sum s).tbr = s.tbr ∧ (moveWindow w rd sum s).y = s.y ∧
    (moveWindow w rd sum s).iccr = s.iccr ∧ (moveWindow w rd sum s).diag = s.diag ∧
    (moveWindow w rd sum s).fpu = s.fpu ∧ (moveWindow w rd sum s).cp = s.cp ∧
    (moveWindow w rd sum s).delays = Delays.tick { s.delays with psr := { s.delays.psr with cwp := false } } ∧
    (moveWindow w rd sum s).mode = s.mode ∧ (moveWindow w rd sum s).inputs = s.inputs ∧
    (moveWindow w rd sum s).schedule = s.schedule ∧ (moveWindow w rd sum s).stale = s.stale ∧
    (moveWindow w rd sum s).mem = s.mem ∧ (moveWindow w rd sum s).busLock = s.busLock ∧
    (moveWindow w rd sum s).draws = s.draws ∧ (moveWindow w rd sum s).cfg = s.cfg :=
  by simp [moveWindow]

@[simp] theorem branch_fields (taken a : Bool) (disp22 : BitVec 22) (s : State) :
    (branch taken a disp22 s).regs = s.regs ∧ (branch taken a disp22 s).pc = s.npc ∧
    (branch taken a disp22 s).npc = (if taken then branchTarget disp22 s else s.npc + 4#32) ∧
    (branch taken a disp22 s).annul = (!taken && a || s.annul) ∧ (branch taken a disp22 s).psr = s.psr ∧
    (branch taken a disp22 s).wim = s.wim ∧ (branch taken a disp22 s).tbr = s.tbr ∧
    (branch taken a disp22 s).y = s.y ∧ (branch taken a disp22 s).iccr = s.iccr ∧
    (branch taken a disp22 s).diag = s.diag ∧ (branch taken a disp22 s).fpu = s.fpu ∧
    (branch taken a disp22 s).cp = s.cp ∧ (branch taken a disp22 s).delays = s.delays.tick ∧
    (branch taken a disp22 s).mode = s.mode ∧ (branch taken a disp22 s).inputs = s.inputs ∧
    (branch taken a disp22 s).schedule = s.schedule ∧ (branch taken a disp22 s).stale = s.stale ∧
    (branch taken a disp22 s).mem = s.mem ∧ (branch taken a disp22 s).busLock = s.busLock ∧
    (branch taken a disp22 s).draws = s.draws ∧ (branch taken a disp22 s).cfg = s.cfg :=
  by unfold branch; cases taken <;> cases a <;> simp

@[simp] theorem branchAlways_fields (a : Bool) (disp22 : BitVec 22) (s : State) :
    (branchAlways a disp22 s).regs = s.regs ∧ (branchAlways a disp22 s).pc = s.npc ∧
    (branchAlways a disp22 s).npc = branchTarget disp22 s ∧ (branchAlways a disp22 s).annul = (a || s.annul) ∧
    (branchAlways a disp22 s).psr = s.psr ∧ (branchAlways a disp22 s).wim = s.wim ∧
    (branchAlways a disp22 s).tbr = s.tbr ∧ (branchAlways a disp22 s).y = s.y ∧
    (branchAlways a disp22 s).iccr = s.iccr ∧ (branchAlways a disp22 s).diag = s.diag ∧
    (branchAlways a disp22 s).fpu = s.fpu ∧ (branchAlways a disp22 s).cp = s.cp ∧
    (branchAlways a disp22 s).delays = s.delays.tick ∧ (branchAlways a disp22 s).mode = s.mode ∧
    (branchAlways a disp22 s).inputs = s.inputs ∧ (branchAlways a disp22 s).schedule = s.schedule ∧
    (branchAlways a disp22 s).stale = s.stale ∧ (branchAlways a disp22 s).mem = s.mem ∧
    (branchAlways a disp22 s).busLock = s.busLock ∧ (branchAlways a disp22 s).draws = s.draws ∧
    (branchAlways a disp22 s).cfg = s.cfg :=
  by unfold branchAlways; cases a <;> simp

@[simp] theorem placeWord_fields (asi : Asi) (addr w : Word) (s : State) :
    (placeWord asi addr w s).regs = s.regs ∧ (placeWord asi addr w s).pc = s.pc ∧
    (placeWord asi addr w s).npc = s.npc ∧ (placeWord asi addr w s).annul = s.annul ∧
    (placeWord asi addr w s).psr = s.psr ∧ (placeWord asi addr w s).wim = s.wim ∧
    (placeWord asi addr w s).tbr = s.tbr ∧ (placeWord asi addr w s).y = s.y ∧
    (placeWord asi addr w s).iccr = s.iccr ∧ (placeWord asi addr w s).diag = s.diag ∧
    (placeWord asi addr w s).fpu = s.fpu ∧ (placeWord asi addr w s).cp = s.cp ∧
    (placeWord asi addr w s).delays = s.delays ∧ (placeWord asi addr w s).mode = s.mode ∧
    (placeWord asi addr w s).inputs = s.inputs ∧ (placeWord asi addr w s).schedule = s.schedule ∧
    (placeWord asi addr w s).busLock = s.busLock ∧ (placeWord asi addr w s).draws = s.draws ∧
    (placeWord asi addr w s).cfg = s.cfg :=
  by simp [placeWord]

@[simp] theorem outsideStore_fields (x : OutsideStore) (s : State) :
    (outsideStore x s).regs = s.regs ∧ (outsideStore x s).pc = s.pc ∧ (outsideStore x s).npc = s.npc ∧
    (outsideStore x s).annul = s.annul ∧ (outsideStore x s).psr = s.psr ∧ (outsideStore x s).wim = s.wim ∧
    (outsideStore x s).tbr = s.tbr ∧ (outsideStore x s).y = s.y ∧ (outsideStore x s).iccr = s.iccr ∧
    (outsideStore x s).diag = s.diag ∧ (outsideStore x s).fpu = s.fpu ∧ (outsideStore x s).cp = s.cp ∧
    (outsideStore x s).delays = s.delays ∧ (outsideStore x s).mode = s.mode ∧
    (outsideStore x s).inputs = s.inputs ∧ (outsideStore x s).schedule = s.schedule ∧
    (outsideStore x s).busLock = s.busLock ∧ (outsideStore x s).draws = s.draws ∧
    (outsideStore x s).cfg = s.cfg :=
  by unfold outsideStore; split <;> simp

@[simp] theorem outsideStores_fields (l : List OutsideStore) (s : State) :
    (outsideStores l s).regs = s.regs ∧ (outsideStores l s).pc = s.pc ∧ (outsideStores l s).npc = s.npc ∧
    (outsideStores l s).annul = s.annul ∧ (outsideStores l s).psr = s.psr ∧ (outsideStores l s).wim = s.wim ∧
    (outsideStores l s).tbr = s.tbr ∧ (outsideStores l s).y = s.y ∧ (outsideStores l s).iccr = s.iccr ∧
    (outsideStores l s).diag = s.diag ∧ (outsideStores l s).fpu = s.fpu ∧ (outsideStores l s).cp = s.cp ∧
    (outsideStores l s).delays = s.delays ∧ (outsideStores l s).mode = s.mode ∧
    (outsideStores l s).inputs = s.inputs ∧ (outsideStores l s).schedule = s.schedule ∧
    (outsideStores l s).busLock = s.busLock ∧ (outsideStores l s).draws = s.draws ∧
    (outsideStores l s).cfg = s.cfg :=
  by induction l generalizing s with
  | nil => simp [outsideStores]
  | cons x l ih => simp [outsideStores, ih]

@[simp] theorem boundary_fields (s : State) :
    (boundary s).regs = s.regs ∧ (boundary s).pc = s.pc ∧ (boundary s).npc = s.npc ∧
    (boundary s).annul = s.annul ∧ (boundary s).psr = s.psr ∧ (boundary s).wim = s.wim ∧
    (boundary s).tbr = s.tbr ∧ (boundary s).y = s.y ∧ (boundary s).iccr = s.iccr ∧ (boundary s).diag = s.diag ∧
    (boundary s).fpu = s.fpu ∧ (boundary s).cp = s.cp ∧ (boundary s).delays = s.delays ∧
    (boundary s).mode = s.mode ∧ (boundary s).busLock = s.busLock ∧ (boundary s).draws = s.draws + 1 ∧
    (boundary s).cfg = s.cfg :=
  by unfold boundary; split <;> simp

end Sys2Proof.Laws
end

