-- ==== Sys2Proof/Laws/Memory.lean ====
section
/-! SUPPORT. The laws of memory: what a write changes, that every operation keeps the canonical form, and what each
store does to the byte at every key. -/

namespace Sys2Proof.Laws

open Sys2Proof.Machine

/-! ### The list -/

theorem read_insert (m : Memory) (key j : Nat) (b : Byte) :
    (m.insert key b).read j = if j = key then b else m.read j := by
  induction m with
  | nil => by_cases h : key = j <;> simp [Memory.insert, Memory.read, h, eq_comm]
  | cons e m ih =>
    obtain ⟨k, c⟩ := e
    unfold Memory.insert
    split_ifs with h1 h2 <;> simp only [Memory.read] <;> (try rw [ih]) <;> split_ifs <;> first | rfl | omega

theorem read_of_canonicalFrom_lt {bound : Nat} {m : Memory} (h : m.canonicalFrom bound = true) {j : Nat}
    (hj : j < bound) : m.read j = unlistedByte := by
  induction m generalizing bound with
  | nil => rfl
  | cons e m ih =>
    obtain ⟨k, c⟩ := e
    simp only [Memory.canonicalFrom, Bool.and_eq_true, decide_eq_true_eq] at h
    have hne : k ≠ j := by omega
    simp only [Memory.read, hne, if_false]
    exact ih h.2 (by omega)

theorem read_erase_of_ne (m : Memory) {key j : Nat} (h : j ≠ key) : (m.erase key).read j = m.read j := by
  induction m with
  | nil => rfl
  | cons e m ih =>
    obtain ⟨k, c⟩ := e
    unfold Memory.erase
    split_ifs with h1
    · have : k ≠ j := by omega
      simp [Memory.read, this]
    · simp only [Memory.read]
      split_ifs
      · rfl
      · exact ih

theorem read_erase_self {bound : Nat} {m : Memory} (h : m.canonicalFrom bound = true) (key : Nat) :
    (m.erase key).read key = unlistedByte := by
  induction m generalizing bound with
  | nil => rfl
  | cons e m ih =>
    obtain ⟨k, c⟩ := e
    simp only [Memory.canonicalFrom, Bool.and_eq_true, decide_eq_true_eq] at h
    unfold Memory.erase
    split_ifs with h1
    · exact read_of_canonicalFrom_lt h.2 (by omega)
    · simp only [Memory.read, h1, if_false]
      exact ih h.2

/-- A write changes no other key. -/
theorem read_write_of_ne (m : Memory) {key j : Nat} (b : Byte) (h : j ≠ key) : (m.write key b).read j = m.read j := by
  unfold Memory.write
  split_ifs
  · exact read_erase_of_ne m h
  · rw [read_insert, if_neg h]

/-- A read after a write of the same key gives the byte written. -/
theorem read_write_self {m : Memory} (h : m.wf = true) (key : Nat) (b : Byte) : (m.write key b).read key = b := by
  unfold Memory.write
  split_ifs with h1
  · rw [h1]; exact read_erase_self h key
  · rw [read_insert, if_pos rfl]

theorem canonicalFrom_mono {a b : Nat} {m : Memory} (h : m.canonicalFrom b = true) (hab : a ≤ b) :
    m.canonicalFrom a = true := by
  cases m with
  | nil => rfl
  | cons e m =>
    obtain ⟨k, c⟩ := e
    simp only [Memory.canonicalFrom, Bool.and_eq_true, decide_eq_true_eq] at h ⊢
    exact ⟨⟨by omega, h.1.2⟩, h.2⟩

theorem canonicalFrom_insert {bound : Nat} {m : Memory} (h : m.canonicalFrom bound = true) {key : Nat} {b : Byte}
    (hk : bound ≤ key) (hb : b ≠ unlistedByte) : (m.insert key b).canonicalFrom bound = true := by
  induction m generalizing bound with
  | nil => simp [Memory.insert, Memory.canonicalFrom, hk, hb]
  | cons e m ih =>
    obtain ⟨k, c⟩ := e
    simp only [Memory.canonicalFrom, Bool.and_eq_true, decide_eq_true_eq] at h
    unfold Memory.insert
    split_ifs with h1 h2 <;> simp only [Memory.canonicalFrom, Bool.and_eq_true, decide_eq_true_eq]
    · exact ⟨⟨hk, hb⟩, ⟨⟨by omega, h.1.2⟩, h.2⟩⟩
    · subst h2; exact ⟨⟨hk, hb⟩, h.2⟩
    · exact ⟨h.1, ih h.2 (by omega)⟩

theorem canonicalFrom_erase {bound : Nat} {m : Memory} (h : m.canonicalFrom bound = true) (key : Nat) :
    (m.erase key).canonicalFrom bound = true := by
  induction m generalizing bound with
  | nil => rfl
  | cons e m ih =>
    obtain ⟨k, c⟩ := e
    simp only [Memory.canonicalFrom, Bool.and_eq_true, decide_eq_true_eq] at h
    unfold Memory.erase
    split_ifs with h1
    · exact canonicalFrom_mono h.2 (by omega)
    · simp only [Memory.canonicalFrom, Bool.and_eq_true, decide_eq_true_eq]
      exact ⟨h.1, ih h.2⟩

/-- A write keeps the canonical form. -/
theorem wf_write {m : Memory} (h : m.wf = true) (key : Nat) (b : Byte) : (m.write key b).wf = true := by
  unfold Memory.write
  split_ifs with h1
  · exact canonicalFrom_erase h key
  · exact canonicalFrom_insert h (Nat.zero_le _) h1

/-! ### The state's memory -/

theorem mem_noteStale (asi : Asi) (addr : Word) (before s : State) : (noteStale asi addr before s).mem = s.mem := by
  simp

theorem canonical_putByte {s : State} (h : MemoryCanonical s) (asi : Asi) (addr : Word) (b : Byte) :
    MemoryCanonical (putByte asi addr b s) := by
  unfold putByte
  split_ifs
  · exact h
  · exact wf_write h _ _

theorem canonical_storeByte {s : State} (h : MemoryCanonical s) (asi : Asi) (addr : Word) (b : Byte) :
    MemoryCanonical (storeByte asi addr b s) := by
  unfold MemoryCanonical storeByte
  rw [mem_noteStale]
  exact canonical_putByte h _ _ _

theorem canonical_storeHalf {s : State} (h : MemoryCanonical s) (asi : Asi) (addr : Word) (v : BitVec 16) :
    MemoryCanonical (storeHalf asi addr v s) := by
  unfold MemoryCanonical storeHalf
  rw [mem_noteStale]
  exact canonical_putByte (canonical_putByte h _ _ _) _ _ _

theorem canonical_storeWord {s : State} (h : MemoryCanonical s) (asi : Asi) (addr : Word) (v : Word) :
    MemoryCanonical (storeWord asi addr v s) := by
  unfold MemoryCanonical storeWord
  rw [mem_noteStale]
  exact canonical_putByte (canonical_putByte (canonical_putByte (canonical_putByte h _ _ _) _ _ _) _ _ _) _ _ _

theorem canonical_storeDouble {s : State} (h : MemoryCanonical s) (asi : Asi) (addr hi lo : Word) :
    MemoryCanonical (storeDouble asi addr hi lo s) :=
  canonical_storeWord (canonical_storeWord h _ _ _) _ _ _

theorem canonical_outsideStore {s : State} (h : MemoryCanonical s) (x : OutsideStore) :
    MemoryCanonical (outsideStore x s) := by
  cases x
  · exact canonical_storeByte h _ _ _
  · exact canonical_storeHalf h _ _ _
  · exact canonical_storeWord h _ _ _

theorem canonical_outsideStores {s : State} (h : MemoryCanonical s) (l : List OutsideStore) :
    MemoryCanonical (outsideStores l s) := by
  induction l generalizing s with
  | nil => exact h
  | cons x l ih => exact ih (canonical_outsideStore h x)

/-- The stores of other agents at a step boundary keep the canonical form. -/
theorem canonical_boundary {s : State} (h : MemoryCanonical s) : MemoryCanonical (boundary s) := by
  unfold boundary
  split
  · exact h
  · refine canonical_outsideStores ?_ _
    exact h

/-! ### What a store leaves alone -/

theorem readByte_of_mem {s t : State} (h : t.mem = s.mem) (asi : Asi) (addr : Word) :
    readByte asi addr t = readByte asi addr s := by
  unfold readByte; rw [h]

theorem readWord_of_mem {s t : State} (h : t.mem = s.mem) (asi : Asi) (addr : Word) :
    readWord asi addr t = readWord asi addr s := by
  unfold readWord; simp only [readByte_of_mem h]

theorem readByte_putByte_of_ne (s : State) {asi asi' : Asi} {addr addr' : Word} (b : Byte)
    (h : cellKey asi' addr' ≠ cellKey asi addr) : readByte asi' addr' (putByte asi addr b s) = readByte asi' addr' s := by
  unfold putByte
  split_ifs
  · rfl
  · exact read_write_of_ne _ _ h

theorem readByte_putByte_self {s : State} (hm : MemoryCanonical s) {asi : Asi} {addr : Word} (b : Byte)
    (hd : isDevice s.cfg asi addr = false) : readByte asi addr (putByte asi addr b s) = b := by
  unfold putByte
  rw [if_neg (by simp [hd])]
  exact read_write_self hm _ _

/-- A byte store changes the byte at its address alone. -/
theorem readByte_storeByte_of_ne (s : State) {asi asi' : Asi} {addr addr' : Word} (b : Byte)
    (h : cellKey asi' addr' ≠ cellKey asi addr) :
    readByte asi' addr' (storeByte asi addr b s) = readByte asi' addr' s := by
  unfold storeByte
  rw [readByte_of_mem (mem_noteStale ..), readByte_putByte_of_ne _ _ h]

/-- A half-word store changes the two bytes from its address alone. -/
theorem readByte_storeHalf_of_ne (s : State) {asi asi' : Asi} {addr addr' : Word} (v : BitVec 16)
    (h0 : cellKey asi' addr' ≠ cellKey asi addr) (h1 : cellKey asi' addr' ≠ cellKey asi (addr + 1#32)) :
    readByte asi' addr' (storeHalf asi addr v s) = readByte asi' addr' s := by
  unfold storeHalf
  rw [readByte_of_mem (mem_noteStale ..), readByte_putByte_of_ne _ _ h1, readByte_putByte_of_ne _ _ h0]

/-- A word store changes the four bytes from its address alone. -/
theorem readByte_storeWord_of_ne (s : State) {asi asi' : Asi} {addr addr' : Word} (v : Word)
    (h0 : cellKey asi' addr' ≠ cellKey asi addr) (h1 : cellKey asi' addr' ≠ cellKey asi (addr + 1#32))
    (h2 : cellKey asi' addr' ≠ cellKey asi (addr + 2#32)) (h3 : cellKey asi' addr' ≠ cellKey asi (addr + 3#32)) :
    readByte asi' addr' (storeWord asi addr v s) = readByte asi' addr' s := by
  unfold storeWord
  rw [readByte_of_mem (mem_noteStale ..), readByte_putByte_of_ne _ _ h3, readByte_putByte_of_ne _ _ h2,
    readByte_putByte_of_ne _ _ h1, readByte_putByte_of_ne _ _ h0]

/-! ### access_ok -/

/-- The one row that gives one answer to one question. -/
def rowFor (f : AccessKind → Nat → Asi → Word → Bool) (q : (AccessKind × Nat) × Asi × Word) : AccessRule where
  region := { asiLow := q.2.1.toNat, asiHigh := q.2.1.toNat, base := q.2.2.toNat, size := 1 }
  kinds := [q.1.1]
  sizes := [q.1.2]
  permitted := f q.1.1 q.1.2 q.2.1 q.2.2

theorem ruleFits_rowFor (f : AccessKind → Nat → Asi → Word → Bool) (kind : AccessKind) (n : Nat) (asi : Asi)
    (addr : Word) (q : (AccessKind × Nat) × Asi × Word) :
    ruleFits kind n asi addr (rowFor f q) = true ↔ q = ((kind, n), asi, addr) := by
  obtain ⟨⟨k, m⟩, a, w⟩ := q
  unfold ruleFits regionHolds rowFor
  simp only [Bool.and_eq_true, decide_eq_true_iff, List.contains_cons, List.contains_nil, Bool.or_false, beq_iff_eq,
    Prod.mk.injEq]
  constructor
  · rintro ⟨⟨⟨⟨⟨h1, h2⟩, h3⟩, h4⟩, h5⟩, h6⟩
    exact ⟨⟨h5.symm, h6.symm⟩, BitVec.eq_of_toNat_eq (by omega), BitVec.eq_of_toNat_eq (by omega)⟩
  · rintro ⟨⟨rfl, rfl⟩, rfl, rfl⟩
    exact ⟨⟨⟨⟨⟨le_refl _, le_refl _⟩, le_refl _⟩, Nat.lt_succ_self _⟩, rfl⟩, rfl⟩

/-- Every function of the kind, the size, the address space and the address is the access_ok of some table (R93). -/
theorem accessOk_any (f : AccessKind → Nat → Asi → Word → Bool) : ∃ table : List AccessRule,
    ∀ (cfg : Config) (kind : AccessKind) (n : Nat) (asi : Asi) (addr : Word), cfg.access = table → n ∈ [1, 2, 4, 8] →
      accessOk cfg kind n asi addr = f kind n asi addr := by
  let kinds : List AccessKind := [.read, .write, .execute, .atomic]
  let asis : List Asi := (List.finRange (2 ^ 8)).map BitVec.ofFin
  let words : List Word := (List.finRange (2 ^ 32)).map BitVec.ofFin
  refine ⟨((kinds ×ˢ [1, 2, 4, 8]) ×ˢ (asis ×ˢ words)).map (rowFor f), fun cfg kind n asi addr hc hn => ?_⟩
  have hmem : ((kind, n), asi, addr) ∈ (kinds ×ˢ [1, 2, 4, 8]) ×ˢ (asis ×ˢ words) := by
    simp only [List.mem_product]
    refine ⟨⟨by cases kind <;> simp [kinds], hn⟩, List.mem_map.mpr ⟨asi.toFin, List.mem_finRange _, rfl⟩,
      List.mem_map.mpr ⟨addr.toFin, List.mem_finRange _, rfl⟩⟩
  unfold accessOk
  rw [hc]
  split
  · next r hr =>
    obtain ⟨q, -, rfl⟩ := List.mem_map.mp (List.mem_of_find?_eq_some hr)
    have := (ruleFits_rowFor f kind n asi addr q).mp (List.find?_some hr)
    rw [this]; rfl
  · next hr =>
    have := List.find?_eq_none.mp hr _ (List.mem_map.mpr ⟨_, hmem, rfl⟩)
    exact absurd ((ruleFits_rowFor f kind n asi addr _).mpr rfl) this

/-! ### Keys -/

/-- Two addresses of one space have one key only if they are one address. -/
theorem cellKey_inj {asi : Asi} {a b : Word} (h : cellKey asi a = cellKey asi b) : a = b := by
  unfold cellKey at h
  have : a.toNat = b.toNat := by split_ifs at h <;> omega
  exact BitVec.eq_of_toNat_eq this

/-- An offset below 2^32 moves the key. -/
theorem cellKey_add_ne (asi : Asi) (addr : Word) {d e : Word} (h : d ≠ e) :
    cellKey asi (addr + d) ≠ cellKey asi (addr + e) := by
  intro hk
  have := cellKey_inj hk
  exact h (by simpa using this)

end Sys2Proof.Laws
end

