-- ==== Sys2Proof/Laws/Ops.lean ====
section
/-! SUPPORT. What each shared operation can do, said once: the r registers, the delayed writes, taking a trap, and the
checks of the memory, floating-point and coprocessor instructions. -/

namespace Sys2Proof.Laws

open Sys2Proof.Machine

/-! ### The register file -/

theorem get_set (v : Vector Word 136) (i k : Fin 136) (x : Word) :
    (v.set i.val x i.isLt).get k = if k = i then x else v.get k := by
  simp only [Vector.get_eq_getElem, Vector.getElem_set]
  by_cases h : k = i
  · simp [h]
  · have : ¬ i.val = k.val := fun e => h (Fin.ext e.symm)
    simp [h, this]

/-- A register write changes the one physical cell, and none for r[0] (R21, R22). -/
theorem get_writeRegIn (w : WindowNum) (i : RegNum) (v : Word) (s : State) (k : Fin 136) :
    (writeRegIn w i v s).regs.get k = if i ≠ 0#5 ∧ k = physIndex w i then v else s.regs.get k := by
  unfold writeRegIn
  by_cases h : i = 0#5
  · simp [h]
  · simp [h, get_set]

theorem physIndex_val (w : WindowNum) (i : RegNum) : (physIndex w i).val =
    if i.toNat < 8 then i.toNat else 8 + (16 * w.toNat + (i.toNat - 8)) % 128 := by
  unfold physIndex
  split_ifs <;> rfl

/-- In one window the registers are distinct cells. -/
theorem physIndex_inj {w : WindowNum} {i j : RegNum} (h : physIndex w i = physIndex w j) : i = j := by
  have hv := congrArg Fin.val h
  rw [physIndex_val, physIndex_val] at hv
  have hi := i.isLt
  have hj := j.isLt
  have hw := w.isLt
  apply BitVec.eq_of_toNat_eq
  split_ifs at hv <;> omega

/-- A read of a register after a write of one in the same window (R9, R21). -/
theorem readRegIn_writeRegIn (w : WindowNum) (i j : RegNum) (v : Word) (s : State) :
    readRegIn w j (writeRegIn w i v s) = if j = i ∧ i ≠ 0#5 then v else readRegIn w j s := by
  unfold readRegIn
  by_cases hj : j = 0#5
  · subst hj
    by_cases hi : i = 0#5
    · simp [hi]
    · have : ¬ (0#5 = i) := fun e => hi e.symm
      simp [this]
  · simp only [hj, if_false, get_writeRegIn]
    by_cases hij : j = i
    · simp [hij]
    · have : ¬ physIndex w j = physIndex w i := fun e => hij (physIndex_inj e)
      simp [hij, this]

/-! ### Old or new -/

@[simp] theorem pickFree_nil {α : Type} (new : α) (draw : Nat) (use : FreeUse) : pickFree new [] draw use = new := rfl

/-- The pick is the new value or one of the older ones. -/
theorem pickFree_mem {α : Type} (new : α) (olds : List α) (draw : Nat) (use : FreeUse) :
    pickFree new olds draw use = new ∨ pickFree new olds draw use ∈ olds := by
  cases olds with
  | nil => exact .inl rfl
  | cons o os =>
    unfold pickFree
    simp only [List.getD_eq_getElem?_getD]
    have hlt : (Config.freeBits 64 draw use).toNat % (os.length + 2) < (new :: o :: os).length := by
      have := Nat.mod_lt (Config.freeBits 64 draw use).toNat (Nat.succ_pos (os.length + 1))
      simpa using this
    rw [List.getElem?_eq_getElem hlt, Option.getD_some]
    have := List.getElem_mem hlt
    rcases List.mem_cons.mp this with h | h
    · exact .inl h
    · exact .inr h

/-! ### No field being modified: every use reads the field -/

theorem iccInUse_settled {s : State} (h : Settled s) : iccInUse s = s.psr.icc := by simp [iccInUse, h.1]

theorem supervisorInUse_settled {s : State} (h : Settled s) (use : FreeUse) : supervisorInUse use s = s.psr.s := by
  simp [supervisorInUse, h.2.2.2.1]

theorem privileged_settled {s : State} (h : Settled s) : privileged s = s.psr.s := supervisorInUse_settled h _

theorem dataSpace_settled {s : State} (h : Settled s) : dataSpace s = if s.psr.s then 0x0B#8 else 0x0A#8 := by
  simp [dataSpace, supervisorInUse_settled h]

theorem fetchSpace_settled {s : State} (h : Settled s) : fetchSpace s = if s.psr.s then 0x09#8 else 0x08#8 := by
  simp [fetchSpace, supervisorInUse_settled h]

theorem accessWindow_settled {s : State} (h : Settled s) (slot : Slot) : accessWindow slot s = s.psr.cwp := by
  simp [accessWindow, h.2.2.2.2.2.1]

theorem windowInUse_settled {s : State} (h : Settled s) : windowInUse s = s.psr.cwp := by
  simp [windowInUse, h.2.2.2.2.2.1]

theorem readReg_settled {s : State} (h : Settled s) (slot : Slot) (i : RegNum) :
    readReg slot i s = readRegIn s.psr.cwp i s := by
  simp [readReg, accessWindow_settled h]

theorem windowInvalid_settled {s : State} (h : Settled s) (w : WindowNum) :
    windowInvalid w s = s.wim.getLsbD w.toNat := by
  simp [windowInvalid, h.2.2.2.2.2.2.2.2.1]

theorem yInUse_settled {s : State} (h : Settled s) : yInUse s = s.y := by
  simp [yInUse, h.2.2.2.2.2.2.2.2.2.2.1]

theorem trapsEnabled_settled {s : State} (h : Settled s) : trapsEnabled s = s.psr.et := by
  simp [trapsEnabled, h.2.2.2.2.2.2.1]

theorem trapsEnabledForRett_settled {s : State} (h : Settled s) : trapsEnabledForRett s = s.psr.et := by
  simp [trapsEnabledForRett, h.2.2.2.2.2.2.1]

theorem previousSupervisor_settled {s : State} (h : Settled s) : previousSupervisor s = s.psr.ps := by
  simp [previousSupervisor, h.2.2.2.2.1]

theorem tbaForTrap_settled {s : State} (h : Settled s) : tbaForTrap s = s.tbr.tba := by
  simp [tbaForTrap, h.2.2.2.2.2.2.2.2.2.1]

theorem interruptTaken_settled {s : State} (h : Settled s) :
    interruptTaken s = interruptCondition s.inputs.irl s.psr.et s.psr.pil := by
  simp [interruptTaken, interruptEnable, interruptMask, h.2.2.2.2.2.2.1, h.2.2.2.2.2.2.2.1]

/-! ### The end of an instruction -/

@[simp] theorem tick_noDelays : noDelays.tick = noDelays := rfl

/-- The end of an instruction opens no window. -/
theorem settled_tick {s t : State} (h : Settled s) (ht : t.delays = s.delays.tick) : Settled t := by
  obtain ⟨h1, h2, h3, h4, h5, h6, h7, h8, h9, h10, h11, h12, h13, h14⟩ := h
  unfold Settled
  rw [ht]
  unfold Delays.tick PsrDelay.tick WimDelay.tick TbrDelay.tick RegDelay.tick IccrDelay.tick
  refine ⟨?_, ?_, ?_, ?_, ?_, ?_, ?_, ?_, ?_, ?_, ?_, ?_, ?_, ?_⟩ <;> dsimp only <;> split_ifs <;> first | rfl | assumption

/-! ### Taking a trap -/

/-- A trap leads to a next state: trap entry or error mode (R520, R525). -/
theorem raise_eq (T : TrapType) (s : State) :
    raise T s = .next (if trapsEnabled s then trapEntry T s else enterErrorMode T s) := rfl

/-- The register that trap entry writes in each cell (R520 step 4). -/
theorem get_trapEntry (T : TrapType) (s : State) (k : Fin 136) : (trapEntry T s).regs.get k =
    if k = physIndex (s.psr.cwp - 1#3) 18#5 then savedNpc s
    else if k = physIndex (s.psr.cwp - 1#3) 17#5 then savedPc s else s.regs.get k := by
  unfold trapEntry
  simp only [get_writeRegIn]
  simp

/-- Traps enabled: the seven steps (R520). -/
theorem trapEntry_taken (T : TrapType) (s : State) : TrapTaken T s (trapEntry T s) where
  et := by simp
  ps := by simp
  supervisor := by simp
  cwp := by simp
  icc := by simp
  enables := by simp
  savedPc := by
    have : physIndex (s.psr.cwp - 1#3) 17#5 ≠ physIndex (s.psr.cwp - 1#3) 18#5 := fun e => by
      have := physIndex_inj e; simp at this
    simp [get_trapEntry, this]
  savedNpc := by simp [get_trapEntry]
  regs := by
    intro k h17 h18
    simp only [trapEntry_fields] at h17 h18
    simp [get_trapEntry, h17, h18]
  tt := by simp
  tba := by simp
  pc := by simp
  npc := by simp
  annul := by simp
  delays := by simp
  special := by simp
  units := by simp
  memory := ⟨fun _ _ => readByte_of_mem (by simp) _ _, by simp⟩

/-- What is neither in error mode nor in the window below is no state after a trap. -/
theorem not_trapEntered {s t : State} (hm : t.mode = .run) (hw : t.psr.cwp ≠ s.psr.cwp - 1#3) : ¬ TrapEntered s t := by
  rintro ⟨T, h | h⟩
  · exact hw (by rw [h]; simp)
  · rw [h] at hm; simp at hm

/-! ### The fetch -/

/-- A fetch gives the word of memory or of a device, or an older value of a possibly stale word (R88, R98). -/
theorem fetch_mem {s : State} {w : Word} (h : fetch s = some w) :
    w = loadWord true (fetchSpace s) s.pc s ∨ w ∈ staleValues s.pc s := by
  unfold fetch at h
  split at h
  · obtain rfl := Option.some.inj h
    exact pickFree_mem _ _ _ _
  · cases h

/-! ### The checks of an access -/

/-- A memory access: its check passes, or it raises the trap of the first check that fails (R161). -/
theorem checkedAccess_eq (kind : AccessKind) (n : Nat) (asi : Asi) (ea : Word) (s : State) (k : Outcome) :
    checkedAccess kind n asi ea s k = if alignedTo n ea = false then raise .memoryAddressNotAligned s
      else if accessOk s.cfg kind n asi ea = false then raise .dataAccessException s else k := by
  unfold checkedAccess
  cases alignedTo n ea <;> cases accessOk s.cfg kind n asi ea <;> rfl

/-- A privileged form in supervisor mode that is not an illegal one. -/
theorem privilegedForm_supervisor {s : State} (h : privileged s = true) (k : Outcome) :
    privilegedForm false s k = k := by
  unfold privilegedForm; simp [h]

/-- A privileged form in user mode (R162). -/
theorem privilegedForm_user {s : State} (h : privileged s = false) (k : Outcome) :
    privilegedForm false s k = raise .privilegedInstruction s := by
  unfold privilegedForm; simp [h]

/-- The FPU lets an instruction run. -/
theorem fpuReady_execute {s : State} (h : s.fpu.mode = .execute) (k : Outcome) : fpuReady false s k = k := by
  unfold fpuReady; simp [h]

/-- An FPop or FBfcc that the FPU lets run. -/
theorem fpOperate_ready {s : State} (he : fpEnabled s = true) (h : s.fpu.mode = .execute) (k : Outcome) :
    fpOperate s k = k := by
  unfold fpOperate fpuReady; simp [he, h]

/-- An FPop or FBfcc without an FPU (R201 step 2). -/
theorem fpOperate_disabled {s : State} (he : fpEnabled s = false) (k : Outcome) :
    fpOperate s k = raise .fpDisabled s := by
  unfold fpOperate; simp [he]

/-- A coprocessor instruction that the coprocessor lets run. -/
theorem cpOperate_ready {s : State} (he : cpEnabled s = true) (h : s.cp.pending = false) (k : Outcome) :
    cpOperate s k = k := by
  unfold cpOperate; simp [he, h]

/-- A coprocessor instruction without a coprocessor (R202 step 2). -/
theorem cpOperate_disabled {s : State} (he : cpEnabled s = false) (k : Outcome) :
    cpOperate s k = raise .cpDisabled s := by
  unfold cpOperate; simp [he]

theorem fpEnabled_settled {s : State} (h : Settled s) : fpEnabled s = (s.cfg.hasFpu && s.psr.ef) := by
  simp [fpEnabled, h.2.2.1]

theorem cpEnabled_settled {s : State} (h : Settled s) : cpEnabled s = (s.cfg.hasCp && s.psr.ec) := by
  simp [cpEnabled, h.2.1]

/-- Every trap of a shared check leads to a next state. -/
theorem raise_next (T : TrapType) (s : State) : ∃ t, raise T s = .next t := ⟨_, rfl⟩

end Sys2Proof.Laws
end

