-- ==== Sys2Proof/Laws/PerInstr.lean ====
section
/-! SUPPORT. Statements for all instructions, one lemma for each constructor: the major opcode of an encoded word. -/

namespace Sys2Proof.Laws

/-- The op field (bits 31:30) of an instruction by its format (R120, R127). -/
def majorOp : Instr → BitVec 2
  | .unimp .. | .sethi .. | .bn .. | .be .. | .ble .. | .bl .. | .bleu .. | .bcs .. | .bneg .. | .bvs ..
  | .ba .. | .bne .. | .bg .. | .bge .. | .bgu .. | .bcc .. | .bpos .. | .bvc .. | .fbn .. | .fbne ..
  | .fblg .. | .fbul .. | .fbl .. | .fbug .. | .fbg .. | .fbu .. | .fba .. | .fbe .. | .fbue .. | .fbge ..
  | .fbuge .. | .fble .. | .fbule .. | .fbo .. | .cbn .. | .cb123 .. | .cb12 .. | .cb13 .. | .cb1 .. | .cb23 ..
  | .cb2 .. | .cb3 .. | .cba .. | .cb0 .. | .cb03 .. | .cb02 .. | .cb023 .. | .cb01 .. | .cb013 .. | .cb012 .. => 0b00#2
  | .call .. => 0b01#2
  | .add .. | .and .. | .or .. | .xor .. | .sub .. | .andn .. | .orn .. | .xnor .. | .addx .. | .umul ..
  | .smul .. | .subx .. | .udiv .. | .sdiv .. | .addcc .. | .andcc .. | .orcc .. | .xorcc .. | .subcc ..
  | .andncc .. | .orncc .. | .xnorcc .. | .addxcc .. | .umulcc .. | .smulcc .. | .subxcc .. | .udivcc ..
  | .sdivcc .. | .taddcc .. | .tsubcc .. | .taddcctv .. | .tsubcctv .. | .mulscc .. | .sll .. | .srl ..
  | .sra .. | .rdy .. | .rdasr .. | .rdpsr .. | .rdwim .. | .rdtbr .. | .wry .. | .wrasr .. | .wrpsr ..
  | .wrwim .. | .wrtbr .. | .fmovs .. | .fnegs .. | .fabss .. | .fsqrts .. | .fsqrtd .. | .fsqrtq ..
  | .fadds .. | .faddd .. | .faddq .. | .fsubs .. | .fsubd .. | .fsubq .. | .fmuls .. | .fmuld .. | .fmulq ..
  | .fdivs .. | .fdivd .. | .fdivq .. | .fsmuld .. | .fdmulq .. | .fitos .. | .fitod .. | .fitoq .. | .fstoi ..
  | .fdtoi .. | .fqtoi .. | .fstod .. | .fstoq .. | .fdtos .. | .fdtoq .. | .fqtos .. | .fqtod .. | .fcmps ..
  | .fcmpd .. | .fcmpq .. | .fcmpes .. | .fcmped .. | .fcmpeq .. | .cpop1 .. | .cpop2 .. | .jmpl .. | .rett ..
  | .tn .. | .te .. | .tle .. | .tl .. | .tleu .. | .tcs .. | .tneg .. | .tvs .. | .ta .. | .tne .. | .tg ..
  | .tge .. | .tgu .. | .tcc .. | .tpos .. | .tvc .. | .flush .. | .save .. | .restore .. => 0b10#2
  | .ld .. | .ldub .. | .lduh .. | .ldd .. | .st .. | .stb .. | .sth .. | .std .. | .ldsb .. | .ldsh ..
  | .ldstub .. | .swap .. | .ldf .. | .ldfsr .. | .lddf .. | .stf .. | .stfsr .. | .stdfq .. | .stdf ..
  | .ldc .. | .ldcsr .. | .lddc .. | .stc .. | .stcsr .. | .stdcq .. | .stdc .. | .lda .. | .lduba ..
  | .lduha .. | .ldda .. | .sta .. | .stba .. | .stha .. | .stda .. | .ldsba .. | .ldsha .. | .ldstuba ..
  | .swapa .. => 0b11#2

/-- The encoder writes the op field of the instruction's format (R120). -/
def EncodedOp.Statement (i : Instr) : Prop := fieldOp (encode i) = majorOp i

theorem EncodedOp.call (disp30 : BitVec 30) : EncodedOp.Statement (.call disp30) :=
  fieldOp_encodeFormat1 _
theorem EncodedOp.unimp (const22 : BitVec 22) : EncodedOp.Statement (.unimp const22) :=
  fieldOp_encodeFormat2 _ _ _
theorem EncodedOp.sethi (rd : RegNum) (imm22 : BitVec 22) : EncodedOp.Statement (.sethi rd imm22) :=
  fieldOp_encodeFormat2 _ _ _
theorem EncodedOp.bn (a : Bool) (disp22 : BitVec 22) : EncodedOp.Statement (.bn a disp22) :=
  fieldOp_encodeBranch _ _ _ _
theorem EncodedOp.be (a : Bool) (disp22 : BitVec 22) : EncodedOp.Statement (.be a disp22) :=
  fieldOp_encodeBranch _ _ _ _
theorem EncodedOp.ble (a : Bool) (disp22 : BitVec 22) : EncodedOp.Statement (.ble a disp22) :=
  fieldOp_encodeBranch _ _ _ _
theorem EncodedOp.bl (a : Bool) (disp22 : BitVec 22) : EncodedOp.Statement (.bl a disp22) :=
  fieldOp_encodeBranch _ _ _ _
theorem EncodedOp.bleu (a : Bool) (disp22 : BitVec 22) : EncodedOp.Statement (.bleu a disp22) :=
  fieldOp_encodeBranch _ _ _ _
theorem EncodedOp.bcs (a : Bool) (disp22 : BitVec 22) : EncodedOp.Statement (.bcs a disp22) :=
  fieldOp_encodeBranch _ _ _ _
theorem EncodedOp.bneg (a : Bool) (disp22 : BitVec 22) : EncodedOp.Statement (.bneg a disp22) :=
  fieldOp_encodeBranch _ _ _ _
theorem EncodedOp.bvs (a : Bool) (disp22 : BitVec 22) : EncodedOp.Statement (.bvs a disp22) :=
  fieldOp_encodeBranch _ _ _ _
theorem EncodedOp.ba (a : Bool) (disp22 : BitVec 22) : EncodedOp.Statement (.ba a disp22) :=
  fieldOp_encodeBranch _ _ _ _
theorem EncodedOp.bne (a : Bool) (disp22 : BitVec 22) : EncodedOp.Statement (.bne a disp22) :=
  fieldOp_encodeBranch _ _ _ _
theorem EncodedOp.bg (a : Bool) (disp22 : BitVec 22) : EncodedOp.Statement (.bg a disp22) :=
  fieldOp_encodeBranch _ _ _ _
theorem EncodedOp.bge (a : Bool) (disp22 : BitVec 22) : EncodedOp.Statement (.bge a disp22) :=
  fieldOp_encodeBranch _ _ _ _
theorem EncodedOp.bgu (a : Bool) (disp22 : BitVec 22) : EncodedOp.Statement (.bgu a disp22) :=
  fieldOp_encodeBranch _ _ _ _
theorem EncodedOp.bcc (a : Bool) (disp22 : BitVec 22) : EncodedOp.Statement (.bcc a disp22) :=
  fieldOp_encodeBranch _ _ _ _
theorem EncodedOp.bpos (a : Bool) (disp22 : BitVec 22) : EncodedOp.Statement (.bpos a disp22) :=
  fieldOp_encodeBranch _ _ _ _
theorem EncodedOp.bvc (a : Bool) (disp22 : BitVec 22) : EncodedOp.Statement (.bvc a disp22) :=
  fieldOp_encodeBranch _ _ _ _
theorem EncodedOp.fbn (a : Bool) (disp22 : BitVec 22) : EncodedOp.Statement (.fbn a disp22) :=
  fieldOp_encodeBranch _ _ _ _
theorem EncodedOp.fbne (a : Bool) (disp22 : BitVec 22) : EncodedOp.Statement (.fbne a disp22) :=
  fieldOp_encodeBranch _ _ _ _
theorem EncodedOp.fblg (a : Bool) (disp22 : BitVec 22) : EncodedOp.Statement (.fblg a disp22) :=
  fieldOp_encodeBranch _ _ _ _
theorem EncodedOp.fbul (a : Bool) (disp22 : BitVec 22) : EncodedOp.Statement (.fbul a disp22) :=
  fieldOp_encodeBranch _ _ _ _
theorem EncodedOp.fbl (a : Bool) (disp22 : BitVec 22) : EncodedOp.Statement (.fbl a disp22) :=
  fieldOp_encodeBranch _ _ _ _
theorem EncodedOp.fbug (a : Bool) (disp22 : BitVec 22) : EncodedOp.Statement (.fbug a disp22) :=
  fieldOp_encodeBranch _ _ _ _
theorem EncodedOp.fbg (a : Bool) (disp22 : BitVec 22) : EncodedOp.Statement (.fbg a disp22) :=
  fieldOp_encodeBranch _ _ _ _
theorem EncodedOp.fbu (a : Bool) (disp22 : BitVec 22) : EncodedOp.Statement (.fbu a disp22) :=
  fieldOp_encodeBranch _ _ _ _
theorem EncodedOp.fba (a : Bool) (disp22 : BitVec 22) : EncodedOp.Statement (.fba a disp22) :=
  fieldOp_encodeBranch _ _ _ _
theorem EncodedOp.fbe (a : Bool) (disp22 : BitVec 22) : EncodedOp.Statement (.fbe a disp22) :=
  fieldOp_encodeBranch _ _ _ _
theorem EncodedOp.fbue (a : Bool) (disp22 : BitVec 22) : EncodedOp.Statement (.fbue a disp22) :=
  fieldOp_encodeBranch _ _ _ _
theorem EncodedOp.fbge (a : Bool) (disp22 : BitVec 22) : EncodedOp.Statement (.fbge a disp22) :=
  fieldOp_encodeBranch _ _ _ _
theorem EncodedOp.fbuge (a : Bool) (disp22 : BitVec 22) : EncodedOp.Statement (.fbuge a disp22) :=
  fieldOp_encodeBranch _ _ _ _
theorem EncodedOp.fble (a : Bool) (disp22 : BitVec 22) : EncodedOp.Statement (.fble a disp22) :=
  fieldOp_encodeBranch _ _ _ _
theorem EncodedOp.fbule (a : Bool) (disp22 : BitVec 22) : EncodedOp.Statement (.fbule a disp22) :=
  fieldOp_encodeBranch _ _ _ _
theorem EncodedOp.fbo (a : Bool) (disp22 : BitVec 22) : EncodedOp.Statement (.fbo a disp22) :=
  fieldOp_encodeBranch _ _ _ _
theorem EncodedOp.cbn (a : Bool) (disp22 : BitVec 22) : EncodedOp.Statement (.cbn a disp22) :=
  fieldOp_encodeBranch _ _ _ _
theorem EncodedOp.cb123 (a : Bool) (disp22 : BitVec 22) : EncodedOp.Statement (.cb123 a disp22) :=
  fieldOp_encodeBranch _ _ _ _
theorem EncodedOp.cb12 (a : Bool) (disp22 : BitVec 22) : EncodedOp.Statement (.cb12 a disp22) :=
  fieldOp_encodeBranch _ _ _ _
theorem EncodedOp.cb13 (a : Bool) (disp22 : BitVec 22) : EncodedOp.Statement (.cb13 a disp22) :=
  fieldOp_encodeBranch _ _ _ _
theorem EncodedOp.cb1 (a : Bool) (disp22 : BitVec 22) : EncodedOp.Statement (.cb1 a disp22) :=
  fieldOp_encodeBranch _ _ _ _
theorem EncodedOp.cb23 (a : Bool) (disp22 : BitVec 22) : EncodedOp.Statement (.cb23 a disp22) :=
  fieldOp_encodeBranch _ _ _ _
theorem EncodedOp.cb2 (a : Bool) (disp22 : BitVec 22) : EncodedOp.Statement (.cb2 a disp22) :=
  fieldOp_encodeBranch _ _ _ _
theorem EncodedOp.cb3 (a : Bool) (disp22 : BitVec 22) : EncodedOp.Statement (.cb3 a disp22) :=
  fieldOp_encodeBranch _ _ _ _
theorem EncodedOp.cba (a : Bool) (disp22 : BitVec 22) : EncodedOp.Statement (.cba a disp22) :=
  fieldOp_encodeBranch _ _ _ _
theorem EncodedOp.cb0 (a : Bool) (disp22 : BitVec 22) : EncodedOp.Statement (.cb0 a disp22) :=
  fieldOp_encodeBranch _ _ _ _
theorem EncodedOp.cb03 (a : Bool) (disp22 : BitVec 22) : EncodedOp.Statement (.cb03 a disp22) :=
  fieldOp_encodeBranch _ _ _ _
theorem EncodedOp.cb02 (a : Bool) (disp22 : BitVec 22) : EncodedOp.Statement (.cb02 a disp22) :=
  fieldOp_encodeBranch _ _ _ _
theorem EncodedOp.cb023 (a : Bool) (disp22 : BitVec 22) : EncodedOp.Statement (.cb023 a disp22) :=
  fieldOp_encodeBranch _ _ _ _
theorem EncodedOp.cb01 (a : Bool) (disp22 : BitVec 22) : EncodedOp.Statement (.cb01 a disp22) :=
  fieldOp_encodeBranch _ _ _ _
theorem EncodedOp.cb013 (a : Bool) (disp22 : BitVec 22) : EncodedOp.Statement (.cb013 a disp22) :=
  fieldOp_encodeBranch _ _ _ _
theorem EncodedOp.cb012 (a : Bool) (disp22 : BitVec 22) : EncodedOp.Statement (.cb012 a disp22) :=
  fieldOp_encodeBranch _ _ _ _
theorem EncodedOp.add (rd rs1 : RegNum) (op2 : RegImm) : EncodedOp.Statement (.add rd rs1 op2) :=
  fieldOp_encodeFormat3 _ _ _ _ _
theorem EncodedOp.and (rd rs1 : RegNum) (op2 : RegImm) : EncodedOp.Statement (.and rd rs1 op2) :=
  fieldOp_encodeFormat3 _ _ _ _ _
theorem EncodedOp.or (rd rs1 : RegNum) (op2 : RegImm) : EncodedOp.Statement (.or rd rs1 op2) :=
  fieldOp_encodeFormat3 _ _ _ _ _
theorem EncodedOp.xor (rd rs1 : RegNum) (op2 : RegImm) : EncodedOp.Statement (.xor rd rs1 op2) :=
  fieldOp_encodeFormat3 _ _ _ _ _
theorem EncodedOp.sub (rd rs1 : RegNum) (op2 : RegImm) : EncodedOp.Statement (.sub rd rs1 op2) :=
  fieldOp_encodeFormat3 _ _ _ _ _
theorem EncodedOp.andn (rd rs1 : RegNum) (op2 : RegImm) : EncodedOp.Statement (.andn rd rs1 op2) :=
  fieldOp_encodeFormat3 _ _ _ _ _
theorem EncodedOp.orn (rd rs1 : RegNum) (op2 : RegImm) : EncodedOp.Statement (.orn rd rs1 op2) :=
  fieldOp_encodeFormat3 _ _ _ _ _
theorem EncodedOp.xnor (rd rs1 : RegNum) (op2 : RegImm) : EncodedOp.Statement (.xnor rd rs1 op2) :=
  fieldOp_encodeFormat3 _ _ _ _ _
theorem EncodedOp.addx (rd rs1 : RegNum) (op2 : RegImm) : EncodedOp.Statement (.addx rd rs1 op2) :=
  fieldOp_encodeFormat3 _ _ _ _ _
theorem EncodedOp.umul (rd rs1 : RegNum) (op2 : RegImm) : EncodedOp.Statement (.umul rd rs1 op2) :=
  fieldOp_encodeFormat3 _ _ _ _ _
theorem EncodedOp.smul (rd rs1 : RegNum) (op2 : RegImm) : EncodedOp.Statement (.smul rd rs1 op2) :=
  fieldOp_encodeFormat3 _ _ _ _ _
theorem EncodedOp.subx (rd rs1 : RegNum) (op2 : RegImm) : EncodedOp.Statement (.subx rd rs1 op2) :=
  fieldOp_encodeFormat3 _ _ _ _ _
theorem EncodedOp.udiv (rd rs1 : RegNum) (op2 : RegImm) : EncodedOp.Statement (.udiv rd rs1 op2) :=
  fieldOp_encodeFormat3 _ _ _ _ _
theorem EncodedOp.sdiv (rd rs1 : RegNum) (op2 : RegImm) : EncodedOp.Statement (.sdiv rd rs1 op2) :=
  fieldOp_encodeFormat3 _ _ _ _ _
theorem EncodedOp.addcc (rd rs1 : RegNum) (op2 : RegImm) : EncodedOp.Statement (.addcc rd rs1 op2) :=
  fieldOp_encodeFormat3 _ _ _ _ _
theorem EncodedOp.andcc (rd rs1 : RegNum) (op2 : RegImm) : EncodedOp.Statement (.andcc rd rs1 op2) :=
  fieldOp_encodeFormat3 _ _ _ _ _
theorem EncodedOp.orcc (rd rs1 : RegNum) (op2 : RegImm) : EncodedOp.Statement (.orcc rd rs1 op2) :=
  fieldOp_encodeFormat3 _ _ _ _ _
theorem EncodedOp.xorcc (rd rs1 : RegNum) (op2 : RegImm) : EncodedOp.Statement (.xorcc rd rs1 op2) :=
  fieldOp_encodeFormat3 _ _ _ _ _
theorem EncodedOp.subcc (rd rs1 : RegNum) (op2 : RegImm) : EncodedOp.Statement (.subcc rd rs1 op2) :=
  fieldOp_encodeFormat3 _ _ _ _ _
theorem EncodedOp.andncc (rd rs1 : RegNum) (op2 : RegImm) : EncodedOp.Statement (.andncc rd rs1 op2) :=
  fieldOp_encodeFormat3 _ _ _ _ _
theorem EncodedOp.orncc (rd rs1 : RegNum) (op2 : RegImm) : EncodedOp.Statement (.orncc rd rs1 op2) :=
  fieldOp_encodeFormat3 _ _ _ _ _
theorem EncodedOp.xnorcc (rd rs1 : RegNum) (op2 : RegImm) : EncodedOp.Statement (.xnorcc rd rs1 op2) :=
  fieldOp_encodeFormat3 _ _ _ _ _
theorem EncodedOp.addxcc (rd rs1 : RegNum) (op2 : RegImm) : EncodedOp.Statement (.addxcc rd rs1 op2) :=
  fieldOp_encodeFormat3 _ _ _ _ _
theorem EncodedOp.umulcc (rd rs1 : RegNum) (op2 : RegImm) : EncodedOp.Statement (.umulcc rd rs1 op2) :=
  fieldOp_encodeFormat3 _ _ _ _ _
theorem EncodedOp.smulcc (rd rs1 : RegNum) (op2 : RegImm) : EncodedOp.Statement (.smulcc rd rs1 op2) :=
  fieldOp_encodeFormat3 _ _ _ _ _
theorem EncodedOp.subxcc (rd rs1 : RegNum) (op2 : RegImm) : EncodedOp.Statement (.subxcc rd rs1 op2) :=
  fieldOp_encodeFormat3 _ _ _ _ _
theorem EncodedOp.udivcc (rd rs1 : RegNum) (op2 : RegImm) : EncodedOp.Statement (.udivcc rd rs1 op2) :=
  fieldOp_encodeFormat3 _ _ _ _ _
theorem EncodedOp.sdivcc (rd rs1 : RegNum) (op2 : RegImm) : EncodedOp.Statement (.sdivcc rd rs1 op2) :=
  fieldOp_encodeFormat3 _ _ _ _ _
theorem EncodedOp.taddcc (rd rs1 : RegNum) (op2 : RegImm) : EncodedOp.Statement (.taddcc rd rs1 op2) :=
  fieldOp_encodeFormat3 _ _ _ _ _
theorem EncodedOp.tsubcc (rd rs1 : RegNum) (op2 : RegImm) : EncodedOp.Statement (.tsubcc rd rs1 op2) :=
  fieldOp_encodeFormat3 _ _ _ _ _
theorem EncodedOp.taddcctv (rd rs1 : RegNum) (op2 : RegImm) : EncodedOp.Statement (.taddcctv rd rs1 op2) :=
  fieldOp_encodeFormat3 _ _ _ _ _
theorem EncodedOp.tsubcctv (rd rs1 : RegNum) (op2 : RegImm) : EncodedOp.Statement (.tsubcctv rd rs1 op2) :=
  fieldOp_encodeFormat3 _ _ _ _ _
theorem EncodedOp.mulscc (rd rs1 : RegNum) (op2 : RegImm) : EncodedOp.Statement (.mulscc rd rs1 op2) :=
  fieldOp_encodeFormat3 _ _ _ _ _
theorem EncodedOp.sll (rd rs1 : RegNum) (count : ShiftCount) : EncodedOp.Statement (.sll rd rs1 count) :=
  fieldOp_encodeFormat3 _ _ _ _ _
theorem EncodedOp.srl (rd rs1 : RegNum) (count : ShiftCount) : EncodedOp.Statement (.srl rd rs1 count) :=
  fieldOp_encodeFormat3 _ _ _ _ _
theorem EncodedOp.sra (rd rs1 : RegNum) (count : ShiftCount) : EncodedOp.Statement (.sra rd rs1 count) :=
  fieldOp_encodeFormat3 _ _ _ _ _
theorem EncodedOp.rdy (rd : RegNum) : EncodedOp.Statement (.rdy rd) :=
  fieldOp_encodeFormat3 _ _ _ _ _
theorem EncodedOp.rdasr (rd rs1 : RegNum) : EncodedOp.Statement (.rdasr rd rs1) :=
  fieldOp_encodeFormat3 _ _ _ _ _
theorem EncodedOp.rdpsr (rd : RegNum) : EncodedOp.Statement (.rdpsr rd) :=
  fieldOp_encodeFormat3 _ _ _ _ _
theorem EncodedOp.rdwim (rd : RegNum) : EncodedOp.Statement (.rdwim rd) :=
  fieldOp_encodeFormat3 _ _ _ _ _
theorem EncodedOp.rdtbr (rd : RegNum) : EncodedOp.Statement (.rdtbr rd) :=
  fieldOp_encodeFormat3 _ _ _ _ _
theorem EncodedOp.wry (rs1 : RegNum) (op2 : RegImm) : EncodedOp.Statement (.wry rs1 op2) :=
  fieldOp_encodeFormat3 _ _ _ _ _
theorem EncodedOp.wrasr (rd rs1 : RegNum) (op2 : RegImm) : EncodedOp.Statement (.wrasr rd rs1 op2) :=
  fieldOp_encodeFormat3 _ _ _ _ _
theorem EncodedOp.wrpsr (rs1 : RegNum) (op2 : RegImm) : EncodedOp.Statement (.wrpsr rs1 op2) :=
  fieldOp_encodeFormat3 _ _ _ _ _
theorem EncodedOp.wrwim (rs1 : RegNum) (op2 : RegImm) : EncodedOp.Statement (.wrwim rs1 op2) :=
  fieldOp_encodeFormat3 _ _ _ _ _
theorem EncodedOp.wrtbr (rs1 : RegNum) (op2 : RegImm) : EncodedOp.Statement (.wrtbr rs1 op2) :=
  fieldOp_encodeFormat3 _ _ _ _ _
theorem EncodedOp.fmovs (rd rs1 rs2 : RegNum) : EncodedOp.Statement (.fmovs rd rs1 rs2) :=
  fieldOp_encodeFormat3 _ _ _ _ _
theorem EncodedOp.fnegs (rd rs1 rs2 : RegNum) : EncodedOp.Statement (.fnegs rd rs1 rs2) :=
  fieldOp_encodeFormat3 _ _ _ _ _
theorem EncodedOp.fabss (rd rs1 rs2 : RegNum) : EncodedOp.Statement (.fabss rd rs1 rs2) :=
  fieldOp_encodeFormat3 _ _ _ _ _
theorem EncodedOp.fsqrts (rd rs1 rs2 : RegNum) : EncodedOp.Statement (.fsqrts rd rs1 rs2) :=
  fieldOp_encodeFormat3 _ _ _ _ _
theorem EncodedOp.fsqrtd (rd rs1 rs2 : RegNum) : EncodedOp.Statement (.fsqrtd rd rs1 rs2) :=
  fieldOp_encodeFormat3 _ _ _ _ _
theorem EncodedOp.fsqrtq (rd rs1 rs2 : RegNum) : EncodedOp.Statement (.fsqrtq rd rs1 rs2) :=
  fieldOp_encodeFormat3 _ _ _ _ _
theorem EncodedOp.fadds (rd rs1 rs2 : RegNum) : EncodedOp.Statement (.fadds rd rs1 rs2) :=
  fieldOp_encodeFormat3 _ _ _ _ _
theorem EncodedOp.faddd (rd rs1 rs2 : RegNum) : EncodedOp.Statement (.faddd rd rs1 rs2) :=
  fieldOp_encodeFormat3 _ _ _ _ _
theorem EncodedOp.faddq (rd rs1 rs2 : RegNum) : EncodedOp.Statement (.faddq rd rs1 rs2) :=
  fieldOp_encodeFormat3 _ _ _ _ _
theorem EncodedOp.fsubs (rd rs1 rs2 : RegNum) : EncodedOp.Statement (.fsubs rd rs1 rs2) :=
  fieldOp_encodeFormat3 _ _ _ _ _
theorem EncodedOp.fsubd (rd rs1 rs2 : RegNum) : EncodedOp.Statement (.fsubd rd rs1 rs2) :=
  fieldOp_encodeFormat3 _ _ _ _ _
theorem EncodedOp.fsubq (rd rs1 rs2 : RegNum) : EncodedOp.Statement (.fsubq rd rs1 rs2) :=
  fieldOp_encodeFormat3 _ _ _ _ _
theorem EncodedOp.fmuls (rd rs1 rs2 : RegNum) : EncodedOp.Statement (.fmuls rd rs1 rs2) :=
  fieldOp_encodeFormat3 _ _ _ _ _
theorem EncodedOp.fmuld (rd rs1 rs2 : RegNum) : EncodedOp.Statement (.fmuld rd rs1 rs2) :=
  fieldOp_encodeFormat3 _ _ _ _ _
theorem EncodedOp.fmulq (rd rs1 rs2 : RegNum) : EncodedOp.Statement (.fmulq rd rs1 rs2) :=
  fieldOp_encodeFormat3 _ _ _ _ _
theorem EncodedOp.fdivs (rd rs1 rs2 : RegNum) : EncodedOp.Statement (.fdivs rd rs1 rs2) :=
  fieldOp_encodeFormat3 _ _ _ _ _
theorem EncodedOp.fdivd (rd rs1 rs2 : RegNum) : EncodedOp.Statement (.fdivd rd rs1 rs2) :=
  fieldOp_encodeFormat3 _ _ _ _ _
theorem EncodedOp.fdivq (rd rs1 rs2 : RegNum) : EncodedOp.Statement (.fdivq rd rs1 rs2) :=
  fieldOp_encodeFormat3 _ _ _ _ _
theorem EncodedOp.fsmuld (rd rs1 rs2 : RegNum) : EncodedOp.Statement (.fsmuld rd rs1 rs2) :=
  fieldOp_encodeFormat3 _ _ _ _ _
theorem EncodedOp.fdmulq (rd rs1 rs2 : RegNum) : EncodedOp.Statement (.fdmulq rd rs1 rs2) :=
  fieldOp_encodeFormat3 _ _ _ _ _
theorem EncodedOp.fitos (rd rs1 rs2 : RegNum) : EncodedOp.Statement (.fitos rd rs1 rs2) :=
  fieldOp_encodeFormat3 _ _ _ _ _
theorem EncodedOp.fitod (rd rs1 rs2 : RegNum) : EncodedOp.Statement (.fitod rd rs1 rs2) :=
  fieldOp_encodeFormat3 _ _ _ _ _
theorem EncodedOp.fitoq (rd rs1 rs2 : RegNum) : EncodedOp.Statement (.fitoq rd rs1 rs2) :=
  fieldOp_encodeFormat3 _ _ _ _ _
theorem EncodedOp.fstoi (rd rs1 rs2 : RegNum) : EncodedOp.Statement (.fstoi rd rs1 rs2) :=
  fieldOp_encodeFormat3 _ _ _ _ _
theorem EncodedOp.fdtoi (rd rs1 rs2 : RegNum) : EncodedOp.Statement (.fdtoi rd rs1 rs2) :=
  fieldOp_encodeFormat3 _ _ _ _ _
theorem EncodedOp.fqtoi (rd rs1 rs2 : RegNum) : EncodedOp.Statement (.fqtoi rd rs1 rs2) :=
  fieldOp_encodeFormat3 _ _ _ _ _
theorem EncodedOp.fstod (rd rs1 rs2 : RegNum) : EncodedOp.Statement (.fstod rd rs1 rs2) :=
  fieldOp_encodeFormat3 _ _ _ _ _
theorem EncodedOp.fstoq (rd rs1 rs2 : RegNum) : EncodedOp.Statement (.fstoq rd rs1 rs2) :=
  fieldOp_encodeFormat3 _ _ _ _ _
theorem EncodedOp.fdtos (rd rs1 rs2 : RegNum) : EncodedOp.Statement (.fdtos rd rs1 rs2) :=
  fieldOp_encodeFormat3 _ _ _ _ _
theorem EncodedOp.fdtoq (rd rs1 rs2 : RegNum) : EncodedOp.Statement (.fdtoq rd rs1 rs2) :=
  fieldOp_encodeFormat3 _ _ _ _ _
theorem EncodedOp.fqtos (rd rs1 rs2 : RegNum) : EncodedOp.Statement (.fqtos rd rs1 rs2) :=
  fieldOp_encodeFormat3 _ _ _ _ _
theorem EncodedOp.fqtod (rd rs1 rs2 : RegNum) : EncodedOp.Statement (.fqtod rd rs1 rs2) :=
  fieldOp_encodeFormat3 _ _ _ _ _
theorem EncodedOp.fcmps (rd rs1 rs2 : RegNum) : EncodedOp.Statement (.fcmps rd rs1 rs2) :=
  fieldOp_encodeFormat3 _ _ _ _ _
theorem EncodedOp.fcmpd (rd rs1 rs2 : RegNum) : EncodedOp.Statement (.fcmpd rd rs1 rs2) :=
  fieldOp_encodeFormat3 _ _ _ _ _
theorem EncodedOp.fcmpq (rd rs1 rs2 : RegNum) : EncodedOp.Statement (.fcmpq rd rs1 rs2) :=
  fieldOp_encodeFormat3 _ _ _ _ _
theorem EncodedOp.fcmpes (rd rs1 rs2 : RegNum) : EncodedOp.Statement (.fcmpes rd rs1 rs2) :=
  fieldOp_encodeFormat3 _ _ _ _ _
theorem EncodedOp.fcmped (rd rs1 rs2 : RegNum) : EncodedOp.Statement (.fcmped rd rs1 rs2) :=
  fieldOp_encodeFormat3 _ _ _ _ _
theorem EncodedOp.fcmpeq (rd rs1 rs2 : RegNum) : EncodedOp.Statement (.fcmpeq rd rs1 rs2) :=
  fieldOp_encodeFormat3 _ _ _ _ _
theorem EncodedOp.cpop1 (rd rs1 : RegNum) (opc : BitVec 9) (rs2 : RegNum) : EncodedOp.Statement (.cpop1 rd rs1 opc rs2) :=
  fieldOp_encodeFormat3 _ _ _ _ _
theorem EncodedOp.cpop2 (rd rs1 : RegNum) (opc : BitVec 9) (rs2 : RegNum) : EncodedOp.Statement (.cpop2 rd rs1 opc rs2) :=
  fieldOp_encodeFormat3 _ _ _ _ _
theorem EncodedOp.jmpl (rd rs1 : RegNum) (op2 : RegImm) : EncodedOp.Statement (.jmpl rd rs1 op2) :=
  fieldOp_encodeFormat3 _ _ _ _ _
theorem EncodedOp.rett (rs1 : RegNum) (op2 : RegImm) : EncodedOp.Statement (.rett rs1 op2) :=
  fieldOp_encodeFormat3 _ _ _ _ _
theorem EncodedOp.tn (rs1 : RegNum) (op2 : RegImm) : EncodedOp.Statement (.tn rs1 op2) :=
  fieldOp_encodeFormat3 _ _ _ _ _
theorem EncodedOp.te (rs1 : RegNum) (op2 : RegImm) : EncodedOp.Statement (.te rs1 op2) :=
  fieldOp_encodeFormat3 _ _ _ _ _
theorem EncodedOp.tle (rs1 : RegNum) (op2 : RegImm) : EncodedOp.Statement (.tle rs1 op2) :=
  fieldOp_encodeFormat3 _ _ _ _ _
theorem EncodedOp.tl (rs1 : RegNum) (op2 : RegImm) : EncodedOp.Statement (.tl rs1 op2) :=
  fieldOp_encodeFormat3 _ _ _ _ _
theorem EncodedOp.tleu (rs1 : RegNum) (op2 : RegImm) : EncodedOp.Statement (.tleu rs1 op2) :=
  fieldOp_encodeFormat3 _ _ _ _ _
theorem EncodedOp.tcs (rs1 : RegNum) (op2 : RegImm) : EncodedOp.Statement (.tcs rs1 op2) :=
  fieldOp_encodeFormat3 _ _ _ _ _
theorem EncodedOp.tneg (rs1 : RegNum) (op2 : RegImm) : EncodedOp.Statement (.tneg rs1 op2) :=
  fieldOp_encodeFormat3 _ _ _ _ _
theorem EncodedOp.tvs (rs1 : RegNum) (op2 : RegImm) : EncodedOp.Statement (.tvs rs1 op2) :=
  fieldOp_encodeFormat3 _ _ _ _ _
theorem EncodedOp.ta (rs1 : RegNum) (op2 : RegImm) : EncodedOp.Statement (.ta rs1 op2) :=
  fieldOp_encodeFormat3 _ _ _ _ _
theorem EncodedOp.tne (rs1 : RegNum) (op2 : RegImm) : EncodedOp.Statement (.tne rs1 op2) :=
  fieldOp_encodeFormat3 _ _ _ _ _
theorem EncodedOp.tg (rs1 : RegNum) (op2 : RegImm) : EncodedOp.Statement (.tg rs1 op2) :=
  fieldOp_encodeFormat3 _ _ _ _ _
theorem EncodedOp.tge (rs1 : RegNum) (op2 : RegImm) : EncodedOp.Statement (.tge rs1 op2) :=
  fieldOp_encodeFormat3 _ _ _ _ _
theorem EncodedOp.tgu (rs1 : RegNum) (op2 : RegImm) : EncodedOp.Statement (.tgu rs1 op2) :=
  fieldOp_encodeFormat3 _ _ _ _ _
theorem EncodedOp.tcc (rs1 : RegNum) (op2 : RegImm) : EncodedOp.Statement (.tcc rs1 op2) :=
  fieldOp_encodeFormat3 _ _ _ _ _
theorem EncodedOp.tpos (rs1 : RegNum) (op2 : RegImm) : EncodedOp.Statement (.tpos rs1 op2) :=
  fieldOp_encodeFormat3 _ _ _ _ _
theorem EncodedOp.tvc (rs1 : RegNum) (op2 : RegImm) : EncodedOp.Statement (.tvc rs1 op2) :=
  fieldOp_encodeFormat3 _ _ _ _ _
theorem EncodedOp.flush (rs1 : RegNum) (op2 : RegImm) : EncodedOp.Statement (.flush rs1 op2) :=
  fieldOp_encodeFormat3 _ _ _ _ _
theorem EncodedOp.save (rd rs1 : RegNum) (op2 : RegImm) : EncodedOp.Statement (.save rd rs1 op2) :=
  fieldOp_encodeFormat3 _ _ _ _ _
theorem EncodedOp.restore (rd rs1 : RegNum) (op2 : RegImm) : EncodedOp.Statement (.restore rd rs1 op2) :=
  fieldOp_encodeFormat3 _ _ _ _ _
theorem EncodedOp.ld (rd rs1 : RegNum) (op2 : RegImm) : EncodedOp.Statement (.ld rd rs1 op2) :=
  fieldOp_encodeFormat3 _ _ _ _ _
theorem EncodedOp.ldub (rd rs1 : RegNum) (op2 : RegImm) : EncodedOp.Statement (.ldub rd rs1 op2) :=
  fieldOp_encodeFormat3 _ _ _ _ _
theorem EncodedOp.lduh (rd rs1 : RegNum) (op2 : RegImm) : EncodedOp.Statement (.lduh rd rs1 op2) :=
  fieldOp_encodeFormat3 _ _ _ _ _
theorem EncodedOp.ldd (rd rs1 : RegNum) (op2 : RegImm) : EncodedOp.Statement (.ldd rd rs1 op2) :=
  fieldOp_encodeFormat3 _ _ _ _ _
theorem EncodedOp.st (rd rs1 : RegNum) (op2 : RegImm) : EncodedOp.Statement (.st rd rs1 op2) :=
  fieldOp_encodeFormat3 _ _ _ _ _
theorem EncodedOp.stb (rd rs1 : RegNum) (op2 : RegImm) : EncodedOp.Statement (.stb rd rs1 op2) :=
  fieldOp_encodeFormat3 _ _ _ _ _
theorem EncodedOp.sth (rd rs1 : RegNum) (op2 : RegImm) : EncodedOp.Statement (.sth rd rs1 op2) :=
  fieldOp_encodeFormat3 _ _ _ _ _
theorem EncodedOp.std (rd rs1 : RegNum) (op2 : RegImm) : EncodedOp.Statement (.std rd rs1 op2) :=
  fieldOp_encodeFormat3 _ _ _ _ _
theorem EncodedOp.ldsb (rd rs1 : RegNum) (op2 : RegImm) : EncodedOp.Statement (.ldsb rd rs1 op2) :=
  fieldOp_encodeFormat3 _ _ _ _ _
theorem EncodedOp.ldsh (rd rs1 : RegNum) (op2 : RegImm) : EncodedOp.Statement (.ldsh rd rs1 op2) :=
  fieldOp_encodeFormat3 _ _ _ _ _
theorem EncodedOp.ldstub (rd rs1 : RegNum) (op2 : RegImm) : EncodedOp.Statement (.ldstub rd rs1 op2) :=
  fieldOp_encodeFormat3 _ _ _ _ _
theorem EncodedOp.swap (rd rs1 : RegNum) (op2 : RegImm) : EncodedOp.Statement (.swap rd rs1 op2) :=
  fieldOp_encodeFormat3 _ _ _ _ _
theorem EncodedOp.ldf (rd rs1 : RegNum) (op2 : RegImm) : EncodedOp.Statement (.ldf rd rs1 op2) :=
  fieldOp_encodeFormat3 _ _ _ _ _
theorem EncodedOp.ldfsr (rs1 : RegNum) (op2 : RegImm) : EncodedOp.Statement (.ldfsr rs1 op2) :=
  fieldOp_encodeFormat3 _ _ _ _ _
theorem EncodedOp.lddf (rd rs1 : RegNum) (op2 : RegImm) : EncodedOp.Statement (.lddf rd rs1 op2) :=
  fieldOp_encodeFormat3 _ _ _ _ _
theorem EncodedOp.stf (rd rs1 : RegNum) (op2 : RegImm) : EncodedOp.Statement (.stf rd rs1 op2) :=
  fieldOp_encodeFormat3 _ _ _ _ _
theorem EncodedOp.stfsr (rs1 : RegNum) (op2 : RegImm) : EncodedOp.Statement (.stfsr rs1 op2) :=
  fieldOp_encodeFormat3 _ _ _ _ _
theorem EncodedOp.stdfq (rs1 : RegNum) (op2 : RegImm) : EncodedOp.Statement (.stdfq rs1 op2) :=
  fieldOp_encodeFormat3 _ _ _ _ _
theorem EncodedOp.stdf (rd rs1 : RegNum) (op2 : RegImm) : EncodedOp.Statement (.stdf rd rs1 op2) :=
  fieldOp_encodeFormat3 _ _ _ _ _
theorem EncodedOp.ldc (rd rs1 : RegNum) (op2 : RegImm) : EncodedOp.Statement (.ldc rd rs1 op2) :=
  fieldOp_encodeFormat3 _ _ _ _ _
theorem EncodedOp.ldcsr (rs1 : RegNum) (op2 : RegImm) : EncodedOp.Statement (.ldcsr rs1 op2) :=
  fieldOp_encodeFormat3 _ _ _ _ _
theorem EncodedOp.lddc (rd rs1 : RegNum) (op2 : RegImm) : EncodedOp.Statement (.lddc rd rs1 op2) :=
  fieldOp_encodeFormat3 _ _ _ _ _
theorem EncodedOp.stc (rd rs1 : RegNum) (op2 : RegImm) : EncodedOp.Statement (.stc rd rs1 op2) :=
  fieldOp_encodeFormat3 _ _ _ _ _
theorem EncodedOp.stcsr (rs1 : RegNum) (op2 : RegImm) : EncodedOp.Statement (.stcsr rs1 op2) :=
  fieldOp_encodeFormat3 _ _ _ _ _
theorem EncodedOp.stdcq (rs1 : RegNum) (op2 : RegImm) : EncodedOp.Statement (.stdcq rs1 op2) :=
  fieldOp_encodeFormat3 _ _ _ _ _
theorem EncodedOp.stdc (rd rs1 : RegNum) (op2 : RegImm) : EncodedOp.Statement (.stdc rd rs1 op2) :=
  fieldOp_encodeFormat3 _ _ _ _ _
theorem EncodedOp.lda (rd rs1 : RegNum) (addr : AltAddr) : EncodedOp.Statement (.lda rd rs1 addr) :=
  fieldOp_encodeFormat3 _ _ _ _ _
theorem EncodedOp.lduba (rd rs1 : RegNum) (addr : AltAddr) : EncodedOp.Statement (.lduba rd rs1 addr) :=
  fieldOp_encodeFormat3 _ _ _ _ _
theorem EncodedOp.lduha (rd rs1 : RegNum) (addr : AltAddr) : EncodedOp.Statement (.lduha rd rs1 addr) :=
  fieldOp_encodeFormat3 _ _ _ _ _
theorem EncodedOp.ldda (rd rs1 : RegNum) (addr : AltAddr) : EncodedOp.Statement (.ldda rd rs1 addr) :=
  fieldOp_encodeFormat3 _ _ _ _ _
theorem EncodedOp.sta (rd rs1 : RegNum) (addr : AltAddr) : EncodedOp.Statement (.sta rd rs1 addr) :=
  fieldOp_encodeFormat3 _ _ _ _ _
theorem EncodedOp.stba (rd rs1 : RegNum) (addr : AltAddr) : EncodedOp.Statement (.stba rd rs1 addr) :=
  fieldOp_encodeFormat3 _ _ _ _ _
theorem EncodedOp.stha (rd rs1 : RegNum) (addr : AltAddr) : EncodedOp.Statement (.stha rd rs1 addr) :=
  fieldOp_encodeFormat3 _ _ _ _ _
theorem EncodedOp.stda (rd rs1 : RegNum) (addr : AltAddr) : EncodedOp.Statement (.stda rd rs1 addr) :=
  fieldOp_encodeFormat3 _ _ _ _ _
theorem EncodedOp.ldsba (rd rs1 : RegNum) (addr : AltAddr) : EncodedOp.Statement (.ldsba rd rs1 addr) :=
  fieldOp_encodeFormat3 _ _ _ _ _
theorem EncodedOp.ldsha (rd rs1 : RegNum) (addr : AltAddr) : EncodedOp.Statement (.ldsha rd rs1 addr) :=
  fieldOp_encodeFormat3 _ _ _ _ _
theorem EncodedOp.ldstuba (rd rs1 : RegNum) (addr : AltAddr) : EncodedOp.Statement (.ldstuba rd rs1 addr) :=
  fieldOp_encodeFormat3 _ _ _ _ _
theorem EncodedOp.swapa (rd rs1 : RegNum) (addr : AltAddr) : EncodedOp.Statement (.swapa rd rs1 addr) :=
  fieldOp_encodeFormat3 _ _ _ _ _

end Sys2Proof.Laws
end

