-- ==== Sys2Proof/Tests/Slice0.lean ====
section
/-! SUPPORT. Tests: words of the spec decode to their instructions, ill-formed terms are refused, one step on the vectors
of 95_test_vectors.md gives what they print, and the hypotheses of the statements can be met. -/

namespace Sys2Proof.Tests

open Sys2Proof Sys2Proof.Machine

set_option Elab.async false

/-! ### WellFormed: an ill-formed term for each check -/

/-- RDASR of rs1 = 0 is RDY's word (R382). -/
theorem test_illformed_rdasr : ¬ (Instr.rdasr 8#5 0#5).WellFormed := by decide

/-- WRASR of rd = 0 is WRY's word (R392). -/
theorem test_illformed_wrasr : ¬ (Instr.wrasr 0#5 8#5 (.imm 1#13)).WellFormed := by decide

theorem test_wellformed : (Instr.rdasr 0#5 31#5).WellFormed ∧ (Instr.wrasr 1#5 0#5 (.reg 0#5)).WellFormed ∧
    (Instr.ldd 31#5 8#5 (.imm 0#13)).WellFormed := by decide

/-! ### Decoding: for every row of the opcode table a word that the spec prints, its fields read by the encoding of
30_encoding.md -/

theorem test_decode_call_unimp_sethi :
    decode 0x40000010#32 = .instr (.call 0x10#30) ∧
    decode 0x3E00000C#32 = .instr (.unimp 0xC#22) ∧
    decode 0x11048D15#32 = .instr (.sethi 8#5 0x48D15#22) := by
  refine ⟨?_, ?_, ?_⟩ <;> decide

theorem test_decode_bicc_1 :
    decode 0x20800004#32 = .instr (.bn true 0x4#22) ∧
    decode 0x02800004#32 = .instr (.be false 0x4#22) ∧
    decode 0x04800004#32 = .instr (.ble false 0x4#22) ∧
    decode 0x06800004#32 = .instr (.bl false 0x4#22) ∧
    decode 0x28800004#32 = .instr (.bleu true 0x4#22) ∧
    decode 0x0A800004#32 = .instr (.bcs false 0x4#22) ∧
    decode 0x0C800004#32 = .instr (.bneg false 0x4#22) ∧
    decode 0x0E800004#32 = .instr (.bvs false 0x4#22) := by
  refine ⟨?_, ?_, ?_, ?_, ?_, ?_, ?_, ?_⟩ <;> decide

theorem test_decode_bicc_2 :
    decode 0x10800002#32 = .instr (.ba false 0x2#22) ∧
    decode 0x12800004#32 = .instr (.bne false 0x4#22) ∧
    decode 0x14800004#32 = .instr (.bg false 0x4#22) ∧
    decode 0x16800004#32 = .instr (.bge false 0x4#22) ∧
    decode 0x18800004#32 = .instr (.bgu false 0x4#22) ∧
    decode 0x1A800004#32 = .instr (.bcc false 0x4#22) ∧
    decode 0x1C800004#32 = .instr (.bpos false 0x4#22) ∧
    decode 0x1E800004#32 = .instr (.bvc false 0x4#22) := by
  refine ⟨?_, ?_, ?_, ?_, ?_, ?_, ?_, ?_⟩ <;> decide

theorem test_decode_fbfcc_1 :
    decode 0x01800004#32 = .instr (.fbn false 0x4#22) ∧
    decode 0x03800004#32 = .instr (.fbne false 0x4#22) ∧
    decode 0x05800004#32 = .instr (.fblg false 0x4#22) ∧
    decode 0x07800004#32 = .instr (.fbul false 0x4#22) ∧
    decode 0x09800004#32 = .instr (.fbl false 0x4#22) ∧
    decode 0x0B800004#32 = .instr (.fbug false 0x4#22) ∧
    decode 0x0D800004#32 = .instr (.fbg false 0x4#22) ∧
    decode 0x0F800004#32 = .instr (.fbu false 0x4#22) := by
  refine ⟨?_, ?_, ?_, ?_, ?_, ?_, ?_, ?_⟩ <;> decide

theorem test_decode_fbfcc_2 :
    decode 0x11800004#32 = .instr (.fba false 0x4#22) ∧
    decode 0x13800004#32 = .instr (.fbe false 0x4#22) ∧
    decode 0x15800004#32 = .instr (.fbue false 0x4#22) ∧
    decode 0x17800004#32 = .instr (.fbge false 0x4#22) ∧
    decode 0x19800004#32 = .instr (.fbuge false 0x4#22) ∧
    decode 0x1B800004#32 = .instr (.fble false 0x4#22) ∧
    decode 0x1D800004#32 = .instr (.fbule false 0x4#22) ∧
    decode 0x1F800004#32 = .instr (.fbo false 0x4#22) := by
  refine ⟨?_, ?_, ?_, ?_, ?_, ?_, ?_, ?_⟩ <;> decide

theorem test_decode_cbccc_1 :
    decode 0x01C00004#32 = .instr (.cbn false 0x4#22) ∧
    decode 0x03C00004#32 = .instr (.cb123 false 0x4#22) ∧
    decode 0x05C00004#32 = .instr (.cb12 false 0x4#22) ∧
    decode 0x07C00004#32 = .instr (.cb13 false 0x4#22) ∧
    decode 0x09C00004#32 = .instr (.cb1 false 0x4#22) ∧
    decode 0x0BC00004#32 = .instr (.cb23 false 0x4#22) ∧
    decode 0x0DC00004#32 = .instr (.cb2 false 0x4#22) ∧
    decode 0x0FC00004#32 = .instr (.cb3 false 0x4#22) := by
  refine ⟨?_, ?_, ?_, ?_, ?_, ?_, ?_, ?_⟩ <;> decide

theorem test_decode_cbccc_2 :
    decode 0x11C00004#32 = .instr (.cba false 0x4#22) ∧
    decode 0x13C00004#32 = .instr (.cb0 false 0x4#22) ∧
    decode 0x15C00004#32 = .instr (.cb03 false 0x4#22) ∧
    decode 0x17C00004#32 = .instr (.cb02 false 0x4#22) ∧
    decode 0x19C00004#32 = .instr (.cb023 false 0x4#22) ∧
    decode 0x1BC00004#32 = .instr (.cb01 false 0x4#22) ∧
    decode 0x1DC00004#32 = .instr (.cb013 false 0x4#22) ∧
    decode 0x1FC00004#32 = .instr (.cb012 false 0x4#22) := by
  refine ⟨?_, ?_, ?_, ?_, ?_, ?_, ?_, ?_⟩ <;> decide

theorem test_decode_arith_1 :
    decode 0x94020009#32 = .instr (.add 10#5 8#5 (.reg 9#5)) ∧
    decode 0x940A0009#32 = .instr (.and 10#5 8#5 (.reg 9#5)) ∧
    decode 0x94120009#32 = .instr (.or 10#5 8#5 (.reg 9#5)) ∧
    decode 0x941A0009#32 = .instr (.xor 10#5 8#5 (.reg 9#5)) ∧
    decode 0x94220009#32 = .instr (.sub 10#5 8#5 (.reg 9#5)) ∧
    decode 0x942A0009#32 = .instr (.andn 10#5 8#5 (.reg 9#5)) ∧
    decode 0x94320009#32 = .instr (.orn 10#5 8#5 (.reg 9#5)) ∧
    decode 0x923A0000#32 = .instr (.xnor 9#5 8#5 (.reg 0#5)) := by
  refine ⟨?_, ?_, ?_, ?_, ?_, ?_, ?_, ?_⟩ <;> decide

theorem test_decode_arith_2 :
    decode 0x94420009#32 = .instr (.addx 10#5 8#5 (.reg 9#5)) ∧
    decode 0x94620009#32 = .instr (.subx 10#5 8#5 (.reg 9#5)) ∧
    decode 0x94820009#32 = .instr (.addcc 10#5 8#5 (.reg 9#5)) ∧
    decode 0x808A20FF#32 = .instr (.andcc 0#5 8#5 (.imm 0xFF#13)) ∧
    decode 0x94920009#32 = .instr (.orcc 10#5 8#5 (.reg 9#5)) ∧
    decode 0x949A0009#32 = .instr (.xorcc 10#5 8#5 (.reg 9#5)) ∧
    decode 0x80A20009#32 = .instr (.subcc 0#5 8#5 (.reg 9#5)) ∧
    decode 0x94AA0009#32 = .instr (.andncc 10#5 8#5 (.reg 9#5)) := by
  refine ⟨?_, ?_, ?_, ?_, ?_, ?_, ?_, ?_⟩ <;> decide

theorem test_decode_arith_3 :
    decode 0x94B20009#32 = .instr (.orncc 10#5 8#5 (.reg 9#5)) ∧
    decode 0x94BA0009#32 = .instr (.xnorcc 10#5 8#5 (.reg 9#5)) ∧
    decode 0x94C20009#32 = .instr (.addxcc 10#5 8#5 (.reg 9#5)) ∧
    decode 0x94E20009#32 = .instr (.subxcc 10#5 8#5 (.reg 9#5)) := by
  refine ⟨?_, ?_, ?_, ?_⟩ <;> decide

theorem test_decode_mul_div_tagged_1 :
    decode 0x94520009#32 = .instr (.umul 10#5 8#5 (.reg 9#5)) ∧
    decode 0x945A0009#32 = .instr (.smul 10#5 8#5 (.reg 9#5)) ∧
    decode 0x94720009#32 = .instr (.udiv 10#5 8#5 (.reg 9#5)) ∧
    decode 0x947A0009#32 = .instr (.sdiv 10#5 8#5 (.reg 9#5)) ∧
    decode 0x94D20009#32 = .instr (.umulcc 10#5 8#5 (.reg 9#5)) ∧
    decode 0x94DA0009#32 = .instr (.smulcc 10#5 8#5 (.reg 9#5)) ∧
    decode 0x94F20009#32 = .instr (.udivcc 10#5 8#5 (.reg 9#5)) ∧
    decode 0x94FA0009#32 = .instr (.sdivcc 10#5 8#5 (.reg 9#5)) := by
  refine ⟨?_, ?_, ?_, ?_, ?_, ?_, ?_, ?_⟩ <;> decide

theorem test_decode_mul_div_tagged_2 :
    decode 0x95020009#32 = .instr (.taddcc 10#5 8#5 (.reg 9#5)) ∧
    decode 0x950A0009#32 = .instr (.tsubcc 10#5 8#5 (.reg 9#5)) ∧
    decode 0x95120009#32 = .instr (.taddcctv 10#5 8#5 (.reg 9#5)) ∧
    decode 0x951A0009#32 = .instr (.tsubcctv 10#5 8#5 (.reg 9#5)) ∧
    decode 0x95220009#32 = .instr (.mulscc 10#5 8#5 (.reg 9#5)) := by
  refine ⟨?_, ?_, ?_, ?_, ?_⟩ <;> decide

theorem test_decode_shift :
    decode 0x932A2003#32 = .instr (.sll 9#5 8#5 (.imm 3#5)) ∧
    decode 0x9332201F#32 = .instr (.srl 9#5 8#5 (.imm 31#5)) ∧
    decode 0x933A2004#32 = .instr (.sra 9#5 8#5 (.imm 4#5)) := by
  refine ⟨?_, ?_, ?_⟩ <;> decide

theorem test_decode_state_register_1 :
    decode 0x91400000#32 = .instr (.rdy 8#5) ∧
    decode 0x91440000#32 = .instr (.rdasr 8#5 16#5) ∧
    decode 0x91480000#32 = .instr (.rdpsr 8#5) ∧
    decode 0x91500000#32 = .instr (.rdwim 8#5) ∧
    decode 0x91580000#32 = .instr (.rdtbr 8#5) ∧
    decode 0x81822055#32 = .instr (.wry 8#5 (.imm 0x55#13)) ∧
    decode 0xA1820000#32 = .instr (.wrasr 16#5 8#5 (.reg 0#5)) ∧
    decode 0x818A2020#32 = .instr (.wrpsr 8#5 (.imm 0x20#13)) := by
  refine ⟨?_, ?_, ?_, ?_, ?_, ?_, ?_, ?_⟩ <;> decide

theorem test_decode_state_register_2 :
    decode 0x81920000#32 = .instr (.wrwim 8#5 (.reg 0#5)) ∧
    decode 0x819A0000#32 = .instr (.wrtbr 8#5 (.reg 0#5)) := by
  refine ⟨?_, ?_⟩ <;> decide

theorem test_decode_fpop_1 :
    decode 0x91A00024#32 = .instr (.fmovs 8#5 0#5 4#5) ∧
    decode 0x91A000A4#32 = .instr (.fnegs 8#5 0#5 4#5) ∧
    decode 0x91A00124#32 = .instr (.fabss 8#5 0#5 4#5) ∧
    decode 0x91A00524#32 = .instr (.fsqrts 8#5 0#5 4#5) ∧
    decode 0x91A00544#32 = .instr (.fsqrtd 8#5 0#5 4#5) ∧
    decode 0x91A00564#32 = .instr (.fsqrtq 8#5 0#5 4#5) ∧
    decode 0x99A10828#32 = .instr (.fadds 12#5 4#5 8#5) ∧
    decode 0x99A10848#32 = .instr (.faddd 12#5 4#5 8#5) := by
  refine ⟨?_, ?_, ?_, ?_, ?_, ?_, ?_, ?_⟩ <;> decide

theorem test_decode_fpop_2 :
    decode 0x99A10868#32 = .instr (.faddq 12#5 4#5 8#5) ∧
    decode 0x99A108A8#32 = .instr (.fsubs 12#5 4#5 8#5) ∧
    decode 0x99A108C8#32 = .instr (.fsubd 12#5 4#5 8#5) ∧
    decode 0x99A108E8#32 = .instr (.fsubq 12#5 4#5 8#5) ∧
    decode 0x99A10928#32 = .instr (.fmuls 12#5 4#5 8#5) ∧
    decode 0x99A10948#32 = .instr (.fmuld 12#5 4#5 8#5) ∧
    decode 0x99A10968#32 = .instr (.fmulq 12#5 4#5 8#5) ∧
    decode 0x99A109A8#32 = .instr (.fdivs 12#5 4#5 8#5) := by
  refine ⟨?_, ?_, ?_, ?_, ?_, ?_, ?_, ?_⟩ <;> decide

theorem test_decode_fpop_3 :
    decode 0x99A109C8#32 = .instr (.fdivd 12#5 4#5 8#5) ∧
    decode 0x99A109E8#32 = .instr (.fdivq 12#5 4#5 8#5) ∧
    decode 0x99A10D28#32 = .instr (.fsmuld 12#5 4#5 8#5) ∧
    decode 0x99A10DC8#32 = .instr (.fdmulq 12#5 4#5 8#5) ∧
    decode 0x91A01884#32 = .instr (.fitos 8#5 0#5 4#5) ∧
    decode 0x91A01904#32 = .instr (.fitod 8#5 0#5 4#5) ∧
    decode 0x91A01984#32 = .instr (.fitoq 8#5 0#5 4#5) ∧
    decode 0x91A01A24#32 = .instr (.fstoi 8#5 0#5 4#5) := by
  refine ⟨?_, ?_, ?_, ?_, ?_, ?_, ?_, ?_⟩ <;> decide

theorem test_decode_fpop_4 :
    decode 0x91A01A44#32 = .instr (.fdtoi 8#5 0#5 4#5) ∧
    decode 0x91A01A64#32 = .instr (.fqtoi 8#5 0#5 4#5) ∧
    decode 0x91A01924#32 = .instr (.fstod 8#5 0#5 4#5) ∧
    decode 0x91A019A4#32 = .instr (.fstoq 8#5 0#5 4#5) ∧
    decode 0x91A018C4#32 = .instr (.fdtos 8#5 0#5 4#5) ∧
    decode 0x91A019C4#32 = .instr (.fdtoq 8#5 0#5 4#5) ∧
    decode 0x91A018E4#32 = .instr (.fqtos 8#5 0#5 4#5) ∧
    decode 0x91A01964#32 = .instr (.fqtod 8#5 0#5 4#5) := by
  refine ⟨?_, ?_, ?_, ?_, ?_, ?_, ?_, ?_⟩ <;> decide

theorem test_decode_fpop_5 :
    decode 0x81A90A28#32 = .instr (.fcmps 0#5 4#5 8#5) ∧
    decode 0x81A90A48#32 = .instr (.fcmpd 0#5 4#5 8#5) ∧
    decode 0x81A90A68#32 = .instr (.fcmpq 0#5 4#5 8#5) ∧
    decode 0x81A90AA8#32 = .instr (.fcmpes 0#5 4#5 8#5) ∧
    decode 0x81A90AC8#32 = .instr (.fcmped 0#5 4#5 8#5) ∧
    decode 0x81A90AE8#32 = .instr (.fcmpeq 0#5 4#5 8#5) := by
  refine ⟨?_, ?_, ?_, ?_, ?_, ?_⟩ <;> decide

theorem test_decode_cpop_flush :
    decode 0x81B00000#32 = .instr (.cpop1 0#5 0#5 0x0#9 0#5) ∧
    decode 0x81B80000#32 = .instr (.cpop2 0#5 0#5 0x0#9 0#5) ∧
    decode 0x81DA2004#32 = .instr (.flush 8#5 (.imm 0x4#13)) := by
  refine ⟨?_, ?_, ?_⟩ <;> decide

theorem test_decode_jump_window :
    decode 0x9FC20000#32 = .instr (.jmpl 15#5 8#5 (.reg 0#5)) ∧
    decode 0x81CCA004#32 = .instr (.rett 18#5 (.imm 0x4#13)) ∧
    decode 0x9DE3BFA0#32 = .instr (.save 14#5 14#5 (.imm 0x1FA0#13)) ∧
    decode 0x91E82005#32 = .instr (.restore 8#5 0#5 (.imm 0x5#13)) := by
  refine ⟨?_, ?_, ?_, ?_⟩ <;> decide

theorem test_decode_ticc_1 :
    decode 0x81D02010#32 = .instr (.tn 0#5 (.imm 0x10#13)) ∧
    decode 0x83D04002#32 = .instr (.te 1#5 (.reg 2#5)) ∧
    decode 0x85D02010#32 = .instr (.tle 0#5 (.imm 0x10#13)) ∧
    decode 0x87D02010#32 = .instr (.tl 0#5 (.imm 0x10#13)) ∧
    decode 0x89D02010#32 = .instr (.tleu 0#5 (.imm 0x10#13)) ∧
    decode 0x8BD02010#32 = .instr (.tcs 0#5 (.imm 0x10#13)) ∧
    decode 0x8DD02010#32 = .instr (.tneg 0#5 (.imm 0x10#13)) ∧
    decode 0x8FD02010#32 = .instr (.tvs 0#5 (.imm 0x10#13)) := by
  refine ⟨?_, ?_, ?_, ?_, ?_, ?_, ?_, ?_⟩ <;> decide

theorem test_decode_ticc_2 :
    decode 0x91D02010#32 = .instr (.ta 0#5 (.imm 0x10#13)) ∧
    decode 0x93D02010#32 = .instr (.tne 0#5 (.imm 0x10#13)) ∧
    decode 0x95D02010#32 = .instr (.tg 0#5 (.imm 0x10#13)) ∧
    decode 0x97D02010#32 = .instr (.tge 0#5 (.imm 0x10#13)) ∧
    decode 0x99D02001#32 = .instr (.tgu 0#5 (.imm 0x1#13)) ∧
    decode 0x9BD02001#32 = .instr (.tcc 0#5 (.imm 0x1#13)) ∧
    decode 0x9DD02010#32 = .instr (.tpos 0#5 (.imm 0x10#13)) ∧
    decode 0x9FD02010#32 = .instr (.tvc 0#5 (.imm 0x10#13)) := by
  refine ⟨?_, ?_, ?_, ?_, ?_, ?_, ?_, ?_⟩ <;> decide

theorem test_decode_memory_1 :
    decode 0xD2022004#32 = .instr (.ld 9#5 8#5 (.imm 0x4#13)) ∧
    decode 0xC6087FFF#32 = .instr (.ldub 3#5 1#5 (.imm 0x1FFF#13)) ∧
    decode 0xD2122002#32 = .instr (.lduh 9#5 8#5 (.imm 0x2#13)) ∧
    decode 0xD41A2000#32 = .instr (.ldd 10#5 8#5 (.imm 0x0#13)) ∧
    decode 0xD2222008#32 = .instr (.st 9#5 8#5 (.imm 0x8#13)) ∧
    decode 0xD22A2003#32 = .instr (.stb 9#5 8#5 (.imm 0x3#13)) ∧
    decode 0xD2322002#32 = .instr (.sth 9#5 8#5 (.imm 0x2#13)) ∧
    decode 0xD43A2008#32 = .instr (.std 10#5 8#5 (.imm 0x8#13)) := by
  refine ⟨?_, ?_, ?_, ?_, ?_, ?_, ?_, ?_⟩ <;> decide

theorem test_decode_memory_2 :
    decode 0xC6484002#32 = .instr (.ldsb 3#5 1#5 (.reg 2#5)) ∧
    decode 0xD2522002#32 = .instr (.ldsh 9#5 8#5 (.imm 0x2#13)) ∧
    decode 0xD26A2000#32 = .instr (.ldstub 9#5 8#5 (.imm 0x0#13)) ∧
    decode 0xD27A000A#32 = .instr (.swap 9#5 8#5 (.reg 10#5)) := by
  refine ⟨?_, ?_, ?_, ?_⟩ <;> decide

theorem test_decode_fp_memory :
    decode 0xC5022000#32 = .instr (.ldf 2#5 8#5 (.imm 0x0#13)) ∧
    decode 0xC10A2000#32 = .instr (.ldfsr 8#5 (.imm 0x0#13)) ∧
    decode 0xC91A2008#32 = .instr (.lddf 4#5 8#5 (.imm 0x8#13)) ∧
    decode 0xC5222004#32 = .instr (.stf 2#5 8#5 (.imm 0x4#13)) ∧
    decode 0xC12A2000#32 = .instr (.stfsr 8#5 (.imm 0x0#13)) ∧
    decode 0xC1322000#32 = .instr (.stdfq 8#5 (.imm 0x0#13)) ∧
    decode 0xC93A2008#32 = .instr (.stdf 4#5 8#5 (.imm 0x8#13)) := by
  refine ⟨?_, ?_, ?_, ?_, ?_, ?_, ?_⟩ <;> decide

theorem test_decode_cp_memory :
    decode 0xC5822000#32 = .instr (.ldc 2#5 8#5 (.imm 0x0#13)) ∧
    decode 0xC18A2000#32 = .instr (.ldcsr 8#5 (.imm 0x0#13)) ∧
    decode 0xC59A2000#32 = .instr (.lddc 2#5 8#5 (.imm 0x0#13)) ∧
    decode 0xC5A22000#32 = .instr (.stc 2#5 8#5 (.imm 0x0#13)) ∧
    decode 0xC1AA2000#32 = .instr (.stcsr 8#5 (.imm 0x0#13)) ∧
    decode 0xC1B22000#32 = .instr (.stdcq 8#5 (.imm 0x0#13)) ∧
    decode 0xC5BA2000#32 = .instr (.stdc 2#5 8#5 (.imm 0x0#13)) := by
  refine ⟨?_, ?_, ?_, ?_, ?_, ?_, ?_⟩ <;> decide

theorem test_decode_alternate_1 :
    decode 0xC4804160#32 = .instr (.lda 2#5 1#5 (.reg 0#5 0x0B#8)) ∧
    decode 0xC4884143#32 = .instr (.lduba 2#5 1#5 (.reg 3#5 0x0A#8)) ∧
    decode 0xC4904140#32 = .instr (.lduha 2#5 1#5 (.reg 0#5 0x0A#8)) ∧
    decode 0xC4984160#32 = .instr (.ldda 2#5 1#5 (.reg 0#5 0x0B#8)) ∧
    decode 0xC4A04160#32 = .instr (.sta 2#5 1#5 (.reg 0#5 0x0B#8)) ∧
    decode 0xC4A84160#32 = .instr (.stba 2#5 1#5 (.reg 0#5 0x0B#8)) ∧
    decode 0xC4B04160#32 = .instr (.stha 2#5 1#5 (.reg 0#5 0x0B#8)) ∧
    decode 0xC4B84160#32 = .instr (.stda 2#5 1#5 (.reg 0#5 0x0B#8)) := by
  refine ⟨?_, ?_, ?_, ?_, ?_, ?_, ?_, ?_⟩ <;> decide

theorem test_decode_alternate_2 :
    decode 0xC4C84140#32 = .instr (.ldsba 2#5 1#5 (.reg 0#5 0x0A#8)) ∧
    decode 0xC4D04140#32 = .instr (.ldsha 2#5 1#5 (.reg 0#5 0x0A#8)) ∧
    decode 0xC4E84160#32 = .instr (.ldstuba 2#5 1#5 (.reg 0#5 0x0B#8)) ∧
    decode 0xC4F84160#32 = .instr (.swapa 2#5 1#5 (.reg 0#5 0x0B#8)) := by
  refine ⟨?_, ?_, ?_, ?_⟩ <;> decide

/-- The second operand form of each format, and the fields at their ends (R121 to R126). -/
theorem test_decode_forms :
    decode 0x94823FFF#32 = .instr (.addcc 10#5 8#5 (.imm 0x1FFF#13)) ∧
    decode 0x952A0009#32 = .instr (.sll 10#5 8#5 (.reg 9#5)) ∧
    decode 0xD2822000#32 = .instr (.lda 9#5 8#5 (.imm 0#13)) ∧
    decode 0xD2820160#32 = .instr (.lda 9#5 8#5 (.reg 0#5 0x0B#8)) ∧
    decode 0x7FFFFFFF#32 = .instr (.call 0x3FFFFFFF#30) ∧
    decode 0xB1D02000#32 = .instr (.ta 0#5 (.imm 0#13)) := by
  refine ⟨?_, ?_, ?_, ?_, ?_, ?_⟩ <;> decide

/-- Words that the spec lists as unassigned, and an FPop with an unassigned opf (R133, 95_test_vectors.md 2.9, 2.10). -/
theorem test_decode_unassigned :
    decode 0x00400000#32 = .unassigned ∧ decode 0x80480000#32 = .unassigned ∧ decode 0x81F80000#32 = .unassigned ∧
    decode 0xC1100000#32 = .unassigned ∧ decode 0x81A00000#32 = .unimplementedFpop := by
  refine ⟨?_, ?_, ?_, ?_, ?_⟩ <;> decide

/-- The encoder writes the words of the spec, and the table word is the word itself. -/
theorem test_encode :
    encode (.udiv 10#5 8#5 (.imm 10#13)) = 0x9472200A#32 ∧ encode (.save 14#5 14#5 (.imm (-96#13))) = 0x9DE3BFA0#32 ∧
    encode (.fadds 12#5 4#5 8#5) = 0x99A10828#32 ∧ decodeTableWord 32 0x9472200A = some (.udiv 10#5 8#5 (.imm 10#13)) := by
  refine ⟨?_, ?_, ?_, ?_⟩ <;> decide

/-! ### The state of the tests: 95_test_vectors.md, "Conventions" -/

/-- pc 0x1000, S = 1, ET = 1, every register 0. -/
def start : State :=
  { State.reset with pc := 0x1000#32, npc := 0x1004#32, psr := { State.reset.psr with et := true } }

/-- icc as four bits n z v c. -/
def iccBits (f : Icc) : BitVec 4 := BitVec.ofBool f.n ++ BitVec.ofBool f.z ++ BitVec.ofBool f.v ++ BitVec.ofBool f.c

def withIcc (b : BitVec 4) (s : State) : State :=
  { s with psr := { s.psr with icc := { n := b.getLsbD 3, z := b.getLsbD 2, v := b.getLsbD 1, c := b.getLsbD 0 } } }

/-- r registers of the current window. -/
def given : List (RegNum × Word) → State → State
  | [], s => s
  | (i, v) :: l, s => given l (writeRegIn s.psr.cwp i v s)

/-- Words of memory. -/
def holding : List (Word × Word) → State → State
  | [], s => s
  | (a, v) :: l, s => holding l { storeWord 0x0B#8 a v s with stale := [] }

def user (s : State) : State := { s with psr := { s.psr with s := false } }
def window (w : WindowNum) (wim : BitVec 8) (s : State) : State := { s with psr := { s.psr with cwp := w }, wim := wim }
def fpu (s : State) : State := { s with psr := { s.psr with ef := true } }
def coprocessor (s : State) : State :=
  { s with psr := { s.psr with ec := true }, cfg := { s.cfg with hasCp := true } }

/-- f registers. -/
def floats : List (RegNum × Word) → State → State
  | [], s => fpu s
  | (i, v) :: l, s => floats l (writeF i v s)

def r (i : RegNum) (t : State) : Word := readRegIn t.psr.cwp i t

/-- The word, fetched and executed, leads to a next state with the property. -/
def runs (w : Word) (s : State) (p : State → Bool) : Bool :=
  match step (s.withFetchWord 32 w.toNat) with
  | .next t => p t
  | _ => false

/-- The word raises the trap with the code, which saves pc and npc and goes to its handler. -/
def traps (w : Word) (s : State) (tt : BitVec 8) : Bool :=
  runs w s fun t => decide (t.tbr.tt = tt ∧ t.pc = vectorAddress s.tbr.tba tt ∧ t.psr.cwp = s.psr.cwp - 1#3 ∧
    r 17#5 t = s.pc ∧ r 18#5 t = s.npc ∧ t.psr.s = true ∧ t.psr.ps = s.psr.s ∧ t.psr.et = false)

/-- An operation on %o0 and %o1 with icc before gives r[10] and icc after. -/
def gives (w : Word) (a b : Word) (before : BitVec 4) (result : Word) (after : BitVec 4) : Bool :=
  runs w (withIcc before (given [(8#5, a), (9#5, b)] start)) fun t => decide (r 10#5 t = result ∧ iccBits t.psr.icc = after)

/-- As `gives`, with Y before and after. -/
def givesY (w : Word) (a b y : Word) (before : BitVec 4) (result yAfter : Word) (after : BitVec 4) : Bool :=
  runs w { withIcc before (given [(8#5, a), (9#5, b)] start) with y := y } fun t =>
    decide (r 10#5 t = result ∧ t.y = yAfter ∧ iccBits t.psr.icc = after)

/-- As `givesY` for a divide, after which Y is free. -/
def divides (w : Word) (a b y : Word) (before : BitVec 4) (result : Word) (after : BitVec 4) : Bool :=
  runs w { withIcc before (given [(8#5, a), (9#5, b)] start) with y := y } fun t =>
    decide (r 10#5 t = result ∧ iccBits t.psr.icc = after)

/-! ### Arithmetic, logical, shift: 95_test_vectors.md section 2.4 -/

theorem test_add : gives 0x94020009#32 0x7FFFFFFF#32 1#32 0b0101#4 0x80000000#32 0b0101#4 = true := by decide +kernel
theorem test_addcc_carry : gives 0x94820009#32 0x80000000#32 0x80000000#32 0b0000#4 0#32 0b0111#4 = true := by decide +kernel
theorem test_addcc_immediate : gives 0x94823FFF#32 5#32 0#32 0b0000#4 4#32 0b0001#4 = true := by decide +kernel
theorem test_addx : gives 0x94420009#32 0xFFFFFFFF#32 0#32 0b0001#4 0#32 0b0001#4 = true := by decide +kernel
theorem test_addxcc : gives 0x94C20009#32 0x7FFFFFFF#32 0#32 0b0001#4 0x80000000#32 0b1010#4 = true := by decide +kernel
theorem test_sub : gives 0x94220009#32 0#32 1#32 0b1111#4 0xFFFFFFFF#32 0b1111#4 = true := by decide +kernel
theorem test_subcc : gives 0x94A20009#32 3#32 0x80000000#32 0b0000#4 0x80000003#32 0b1011#4 = true := by decide +kernel
theorem test_subcc_overflow : gives 0x94A20009#32 0x80000000#32 1#32 0b0000#4 0x7FFFFFFF#32 0b0010#4 = true := by decide +kernel
theorem test_subx : gives 0x94620009#32 0#32 0#32 0b0001#4 0xFFFFFFFF#32 0b0001#4 = true := by decide +kernel
theorem test_subxcc : gives 0x94E20009#32 0x80000000#32 0#32 0b0001#4 0x7FFFFFFF#32 0b0010#4 = true := by decide +kernel

theorem test_logical :
    gives 0x940A0009#32 0xFF00FF00#32 0x0FF00FF0#32 0b1010#4 0x0F000F00#32 0b1010#4 = true ∧
    gives 0x942A0009#32 0xFF00FF00#32 0x0FF00FF0#32 0b0000#4 0xF000F000#32 0b0000#4 = true ∧
    gives 0x94120009#32 0xFF00FF00#32 0x0FF00FF0#32 0b0000#4 0xFFF0FFF0#32 0b0000#4 = true ∧
    gives 0x94320009#32 0xFF00FF00#32 0x0FF00FF0#32 0b0000#4 0xFF0FFF0F#32 0b0000#4 = true ∧
    gives 0x941A0009#32 0xFF00FF00#32 0x0FF00FF0#32 0b0000#4 0xF0F0F0F0#32 0b0000#4 = true ∧
    gives 0x943A0009#32 0xFF00FF00#32 0x0FF00FF0#32 0b0000#4 0x0F0F0F0F#32 0b0000#4 = true := by
  refine ⟨?_, ?_, ?_, ?_, ?_, ?_⟩ <;> decide +kernel

theorem test_logical_cc :
    gives 0x948A0009#32 0xFF00FF00#32 0x00FF00FF#32 0b1011#4 0#32 0b0100#4 = true ∧
    gives 0x94AA0009#32 0xFF00FF00#32 0x0FF00FF0#32 0b0011#4 0xF000F000#32 0b1000#4 = true ∧
    gives 0x94920009#32 0#32 0#32 0b1011#4 0#32 0b0100#4 = true ∧
    gives 0x94B20009#32 0#32 0xFFFFFFFF#32 0b1011#4 0#32 0b0100#4 = true ∧
    gives 0x949A0009#32 0xFF00FF00#32 0xFF00FF00#32 0b1011#4 0#32 0b0100#4 = true ∧
    gives 0x94BA0009#32 0xFF00FF00#32 0x00FF00FF#32 0b1011#4 0#32 0b0100#4 = true := by
  refine ⟨?_, ?_, ?_, ?_, ?_, ?_⟩ <;> decide +kernel

theorem test_shift_counts :
    gives 0x952A0009#32 0x80000001#32 0x21#32 0b0000#4 2#32 0b0000#4 = true ∧
    gives 0x95323FE1#32 0x80000001#32 0#32 0b0000#4 0x40000000#32 0b0000#4 = true ∧
    gives 0x953A201F#32 0x80000001#32 0#32 0b0000#4 0xFFFFFFFF#32 0b0000#4 = true ∧
    gives 0x953A0009#32 0x80000000#32 0#32 0b0000#4 0x80000000#32 0b0000#4 = true := by
  refine ⟨?_, ?_, ?_, ?_⟩ <;> decide +kernel

theorem test_sethi : runs 0x113FFFFF#32 (given [(8#5, 0xDEADBEEF#32)] start) (fun t => r 8#5 t = 0xFFFFFC00#32) = true := by
  decide +kernel

/-! ### Multiply, divide, tagged: 95_test_vectors.md section 2.5 -/

theorem test_umul : givesY 0x94520009#32 0xFFFFFFFF#32 0xFFFFFFFF#32 0#32 0b1111#4 1#32 0xFFFFFFFE#32 0b1111#4 = true := by
  decide +kernel
theorem test_umulcc : givesY 0x94D20009#32 0x10000#32 0x10000#32 0#32 0b1011#4 0#32 1#32 0b0100#4 = true := by decide +kernel
theorem test_smul : givesY 0x945A0009#32 0xFFFFFFFE#32 3#32 0#32 0b0000#4 0xFFFFFFFA#32 0xFFFFFFFF#32 0b0000#4 = true := by
  decide +kernel
theorem test_smulcc : givesY 0x94DA0009#32 0x80000000#32 0x80000000#32 0#32 0b1011#4 0#32 0x40000000#32 0b0100#4 = true := by
  decide +kernel
theorem test_mulscc : givesY 0x95220009#32 7#32 5#32 2#32 0b1000#4 0x80000003#32 0x80000001#32 0b1000#4 = true := by decide +kernel
theorem test_mulscc_overflow :
    givesY 0x95220009#32 0xFFFFFFFF#32 0x80000000#32 1#32 0b0010#4 0x7FFFFFFF#32 0x80000000#32 0b0011#4 = true := by decide +kernel
theorem test_udiv : divides 0x94720009#32 0#32 2#32 1#32 0b0000#4 0x80000000#32 0b0000#4 = true := by decide +kernel
theorem test_udivcc : divides 0x94F20009#32 0#32 1#32 1#32 0b0000#4 0xFFFFFFFF#32 0b1010#4 = true := by decide +kernel
theorem test_sdiv : divides 0x947A0009#32 0xFFFFFF9C#32 7#32 0xFFFFFFFF#32 0b0000#4 0xFFFFFFF2#32 0b0000#4 = true := by decide +kernel
theorem test_sdivcc : divides 0x94FA0009#32 0x80000000#32 0xFFFFFFFF#32 0xFFFFFFFF#32 0b0000#4 0x7FFFFFFF#32 0b0010#4 = true := by
  decide +kernel
theorem test_sdivcc_low : divides 0x94FA0009#32 0x7FFFFFFF#32 1#32 0xFFFFFFFF#32 0b0000#4 0x80000000#32 0b1010#4 = true := by
  decide +kernel
theorem test_udiv_zero : traps 0x94720009#32 (given [(8#5, 5#32)] start) 0x2A#8 = true := by decide +kernel
theorem test_tagged :
    gives 0x95020009#32 5#32 8#32 0b0000#4 13#32 0b0010#4 = true ∧
    gives 0x950A0009#32 4#32 8#32 0b0000#4 0xFFFFFFFC#32 0b1001#4 = true ∧
    gives 0x95120009#32 4#32 8#32 0b0010#4 12#32 0b0000#4 = true ∧
    gives 0x951A0009#32 8#32 4#32 0b0010#4 4#32 0b0000#4 = true := by
  refine ⟨?_, ?_, ?_, ?_⟩ <;> decide +kernel
theorem test_taddcctv_trap : traps 0x95120009#32 (given [(8#5, 0x7FFFFFFC#32), (9#5, 4#32)] start) 0x0A#8 = true := by decide +kernel
theorem test_tsubcctv_trap : traps 0x951A0009#32 (given [(8#5, 8#32), (9#5, 2#32)] start) 0x0A#8 = true := by decide +kernel

/-! ### Loads, stores, atomics: 95_test_vectors.md sections 2.1 and 2.3 -/

/-- The memory of section 2.1, with %o0 = 0x2000. -/
def dataState : State :=
  holding [(0x2000#32, 0x8001FE7F#32), (0x2004#32, 0x12345678#32), (0x2008#32, 0x9ABCDEF0#32), (0x200C#32, 0x0F1E2D3C#32)]
    (given [(8#5, 0x2000#32)] start)

def loads (w : Word) (v : Word) : Bool := runs w dataState fun t => r 9#5 t = v

theorem test_ld : loads 0xD2022004#32 0x12345678#32 = true := by decide +kernel
theorem test_load_bytes : loads 0xD20A2003#32 0x7F#32 = true ∧ loads 0xD24A2002#32 0xFFFFFFFE#32 = true := by
  refine ⟨?_, ?_⟩ <;> decide +kernel
theorem test_load_halves : loads 0xD2122000#32 0x8001#32 = true ∧ loads 0xD2522000#32 0xFFFF8001#32 = true := by
  refine ⟨?_, ?_⟩ <;> decide +kernel
theorem test_ldd : runs 0xD41A2008#32 dataState (fun t => decide (r 10#5 t = 0x9ABCDEF0#32 ∧ r 11#5 t = 0x0F1E2D3C#32)) = true := by
  decide +kernel
theorem test_ldd_global : runs 0xC01A2000#32 dataState (fun t => decide (r 0#5 t = 0#32 ∧ r 1#5 t = 0x12345678#32)) = true := by
  decide +kernel
theorem test_ld_misaligned : traps 0xD2022002#32 dataState 0x07#8 = true := by decide +kernel
theorem test_lda : loads 0xD2820160#32 0x8001FE7F#32 = true := by decide +kernel
theorem test_lda_user : traps 0xD2820160#32 (user dataState) 0x03#8 = true := by decide +kernel
theorem test_lda_immediate :
    traps 0xD2822000#32 dataState 0x02#8 = true ∧ traps 0xD2822000#32 (user dataState) 0x03#8 = true := by
  refine ⟨?_, ?_⟩ <;> decide +kernel
/-- A platform that answers access_ok by a table with one more row before the default (R93). -/
def platform (kinds : List AccessKind) (sizes : List Nat) (s : State) : State :=
  { s with cfg := { s.cfg with access := { region := { standardRegion with asiLow := 10 }, kinds := kinds, sizes := sizes, permitted := false } :: defaultAccess } }
theorem test_ld_refused : traps 0xD2022004#32 (platform [.read] [4] dataState) 0x09#8 = true := by decide +kernel
/-- LDUH where only words are refused; SWAP where only atomic accesses are, and ST there. -/
theorem test_refused_by_size_and_kind :
    runs 0xD2122000#32 (platform [.read] [4] dataState) (fun t => decide (r 9#5 t = 0x8001#32)) = true ∧
    traps 0xD27A2000#32 (platform [.atomic] [4] dataState) 0x09#8 = true ∧
    runs 0xD2222004#32 (platform [.atomic] [4] dataState) (fun t => decide (t.tbr.tt = 0#8)) = true := by
  refine ⟨?_, ?_, ?_⟩ <;> decide +kernel

/-- %o1 and the two words from 0x2000 after a store of 0xA1B2C3D4. -/
def stores (w : Word) (v0 v4 : Word) : Bool :=
  runs w (given [(9#5, 0xA1B2C3D4#32), (10#5, 0x01020304#32), (11#5, 0x05060708#32), (1#5, 0x55667788#32)] dataState) fun t =>
    decide (readWord 0x0B#8 0x2000#32 t = v0 ∧ readWord 0x0B#8 0x2004#32 t = v4)

theorem test_st : stores 0xD2222004#32 0x8001FE7F#32 0xA1B2C3D4#32 = true := by decide +kernel
theorem test_stb : stores 0xD22A2005#32 0x8001FE7F#32 0x12D45678#32 = true := by decide +kernel
theorem test_sth : stores 0xD2322006#32 0x8001FE7F#32 0x1234C3D4#32 = true := by decide +kernel
theorem test_std_global : stores 0xC03A2000#32 0#32 0x55667788#32 = true := by decide +kernel
theorem test_std : runs 0xD43A2008#32 (given [(10#5, 0x01020304#32), (11#5, 0x05060708#32)] dataState) (fun t =>
    decide (readWord 0x0B#8 0x2008#32 t = 0x01020304#32 ∧ readWord 0x0B#8 0x200C#32 t = 0x05060708#32)) = true := by decide +kernel
theorem test_std_misaligned : traps 0xD43A200C#32 dataState 0x07#8 = true := by decide +kernel

/-- The state of section 2.3. -/
def lockState (v : Word) : State := holding [(0x2000#32, v)] (given [(8#5, 0x2000#32), (9#5, 0x12345678#32)] start)

theorem test_ldstub : runs 0xD26A2001#32 (lockState 0x00AABBCC#32) (fun t =>
    decide (r 9#5 t = 0xAA#32 ∧ readWord 0x0B#8 0x2000#32 t = 0x00FFBBCC#32)) = true := by decide +kernel
theorem test_swap : runs 0xD27A2000#32 (lockState 0x00AABBCC#32) (fun t =>
    decide (r 9#5 t = 0x00AABBCC#32 ∧ readWord 0x0B#8 0x2000#32 t = 0x12345678#32)) = true := by decide +kernel
theorem test_ldstuba : runs 0xD2EA0160#32 (lockState 0x00AABBCC#32) (fun t =>
    decide (r 9#5 t = 0#32 ∧ readWord 0x0B#8 0x2000#32 t = 0xFFAABBCC#32)) = true := by decide +kernel
theorem test_swapa_user : traps 0xD2FA0140#32 (user (lockState 0x00AABBCC#32)) 0x03#8 = true := by decide +kernel
theorem test_swap_misaligned : traps 0xD27A2002#32 (lockState 0x00AABBCC#32) 0x07#8 = true := by decide +kernel

/-! ### Control transfer: 95_test_vectors.md sections 1 and 2.6 -/

/-- A branch at 0x1000 with icc: the next npc and annul. -/
def branches (w : Word) (icc : BitVec 4) (npc : Word) (annul : Bool) : Bool :=
  runs w (withIcc icc start) fun t => decide (t.pc = 0x1004#32 ∧ t.npc = npc ∧ t.annul = annul)

theorem test_branch_annul :
    branches 0x30800010#32 0b0000#4 0x1040#32 true = true ∧ branches 0x20800010#32 0b1111#4 0x1008#32 true = true ∧
    branches 0x32BFFFFC#32 0b0000#4 0xFF0#32 false = true ∧ branches 0x32BFFFFC#32 0b0100#4 0x1008#32 true = true ∧
    branches 0x10A00000#32 0b0000#4 0xFF801000#32 false = true := by
  refine ⟨?_, ?_, ?_, ?_, ?_⟩ <;> decide +kernel

theorem test_branch_taken :
    branches 0x02800008#32 0b0100#4 0x1020#32 false = true ∧ branches 0x14800008#32 0b1010#4 0x1020#32 false = true ∧
    branches 0x04800008#32 0b1000#4 0x1020#32 false = true ∧ branches 0x16800008#32 0b1010#4 0x1020#32 false = true ∧
    branches 0x06800008#32 0b0010#4 0x1020#32 false = true ∧ branches 0x18800008#32 0b0000#4 0x1020#32 false = true ∧
    branches 0x08800008#32 0b0100#4 0x1020#32 false = true ∧ branches 0x0A800008#32 0b0001#4 0x1020#32 false = true := by
  refine ⟨?_, ?_, ?_, ?_, ?_, ?_, ?_, ?_⟩ <;> decide +kernel

theorem test_branch_untaken :
    branches 0x14800008#32 0b1000#4 0x1008#32 false = true ∧ branches 0x18800008#32 0b0001#4 0x1008#32 false = true ∧
    branches 0x1A800008#32 0b0001#4 0x1008#32 false = true ∧ branches 0x1C800008#32 0b1000#4 0x1008#32 false = true ∧
    branches 0x1E800008#32 0b0010#4 0x1008#32 false = true := by
  refine ⟨?_, ?_, ?_, ?_, ?_⟩ <;> decide +kernel

theorem test_skip_annulled : runs 0x82006001#32 start (fun t => r 1#5 t = 1#32) = true ∧
    (match step { start with annul := true } with
      | .next t => decide (t.pc = 0x1004#32 ∧ t.npc = 0x1008#32 ∧ t.annul = false ∧ r 1#5 t = 0#32)
      | _ => false) = true := by
  refine ⟨?_, ?_⟩ <;> decide +kernel

/-- An FBfcc or CBccc with the code given. -/
def fcc (c : BitVec 2) : State := let s := fpu start; { s with fpu := { s.fpu with fsr := { s.fpu.fsr with fcc := c } } }
def ccc (c : BitVec 2) : State := let s := coprocessor start; { s with cp := { s.cp with ccc := c } }

theorem test_fbfcc :
    runs 0x13800004#32 (fcc 0#2) (fun t => t.npc = 0x1010#32) = true ∧
    runs 0x13800004#32 (fcc 3#2) (fun t => t.npc = 0x1008#32) = true ∧
    runs 0x03800004#32 (fcc 3#2) (fun t => t.npc = 0x1010#32) = true ∧
    runs 0x1F800004#32 (fcc 3#2) (fun t => t.npc = 0x1008#32) = true ∧
    runs 0x19800004#32 (fcc 1#2) (fun t => t.npc = 0x1008#32) = true ∧
    runs 0x31800004#32 (fcc 1#2) (fun t => decide (t.npc = 0x1010#32 ∧ t.annul = true)) = true ∧
    traps 0x13800004#32 start 0x04#8 = true := by
  refine ⟨?_, ?_, ?_, ?_, ?_, ?_, ?_⟩ <;> decide +kernel

theorem test_cbccc :
    traps 0x11C00004#32 start 0x24#8 = true ∧
    runs 0x07C00004#32 (ccc 1#2) (fun t => t.npc = 0x1010#32) = true ∧
    runs 0x07C00004#32 (ccc 2#2) (fun t => t.npc = 0x1008#32) = true := by
  refine ⟨?_, ?_, ?_⟩ <;> decide +kernel

theorem test_call : runs 0x7FFFFFFF#32 start (fun t => decide (r 15#5 t = 0x1000#32 ∧ t.pc = 0x1004#32 ∧ t.npc = 0xFFC#32)) = true := by
  decide +kernel
theorem test_jmpl : runs 0x91C22000#32 (given [(8#5, 0x3000#32)] start) (fun t =>
    decide (r 8#5 t = 0x1000#32 ∧ t.npc = 0x3000#32)) = true := by decide +kernel
theorem test_jmpl_misaligned : traps 0x9FC22002#32 (given [(8#5, 0x3000#32)] start) 0x07#8 = true := by decide +kernel
theorem test_save : runs 0x9DE3BFA0#32 (given [(14#5, 0x8000#32)] (window 0#3 2#8 start)) (fun t =>
    decide (t.psr.cwp = 7#3 ∧ r 14#5 t = 0x7FA0#32 ∧ r 30#5 t = 0x8000#32)) = true := by decide +kernel
theorem test_save_overflow : traps 0x9DE3BFA0#32 (window 3#3 4#8 start) 0x05#8 = true := by decide +kernel
theorem test_restore : runs 0x91EFA008#32 (given [(30#5, 0x7000#32)] (window 7#3 2#8 start)) (fun t =>
    decide (t.psr.cwp = 0#3 ∧ r 8#5 t = 0x7008#32)) = true := by decide +kernel
theorem test_restore_underflow : traps 0x81E80000#32 (window 7#3 1#8 start) 0x06#8 = true := by decide +kernel

/-- E1 and E3 after the JMPL: RETT at 0x1004 with the pair's target in %l2. -/
def rettState (s et ps : Bool) (wim : BitVec 8) (l2 : Word) : State :=
  given [(18#5, l2)] (window 7#3 wim { start with
    pc := 0x1004#32, npc := 0x4000#32, psr := { start.psr with s := s, et := et, ps := ps } })

/-- Error mode with the code: pc, CWP and ET as they were. -/
def halts (w : Word) (s : State) (tt : BitVec 8) : Bool :=
  runs w s fun t => decide (t.mode = .error ∧ t.tbr.tt = tt ∧ t.pc = s.pc ∧ t.psr = s.psr)

theorem test_rett : runs 0x81CC8000#32 (rettState true false false 2#8 0x4004#32) (fun t =>
    decide (t.pc = 0x4000#32 ∧ t.npc = 0x4004#32 ∧ t.psr.cwp = 0#3 ∧ t.psr.s = false ∧ t.psr.et = true ∧ t.psr.ps = false)) = true := by
  decide +kernel
theorem test_rett_traps :
    halts 0x81CC8000#32 (rettState true false false 1#8 0x4004#32) 0x06#8 = true ∧
    halts 0x81CC8000#32 (rettState true false false 2#8 0x4006#32) 0x07#8 = true ∧
    halts 0x81CC8000#32 (rettState false false false 2#8 0x4004#32) 0x03#8 = true ∧
    traps 0x81CC8000#32 (rettState true true false 2#8 0x4004#32) 0x02#8 = true ∧
    traps 0x81CC8000#32 (rettState false true false 2#8 0x4004#32) 0x03#8 = true := by
  refine ⟨?_, ?_, ?_, ?_, ?_⟩ <;> decide +kernel

theorem test_ticc :
    traps 0x91D2207F#32 (given [(8#5, 0x81#32)] (user start)) 0x80#8 = true ∧
    traps 0x91D03FFF#32 (user start) 0xFF#8 = true ∧
    traps 0x83D02003#32 (withIcc 0b0100#4 start) 0x83#8 = true ∧
    runs 0x9BD02001#32 (withIcc 0b0001#4 start) (fun t => decide (t.pc = 0x1004#32 ∧ t.npc = 0x1008#32)) = true ∧
    traps 0x8FD02009#32 (withIcc 0b0010#4 start) 0x89#8 = true ∧
    traps 0xB1D02000#32 start 0x80#8 = true ∧
    halts 0x91D02003#32 { start with psr := { start.psr with et := false } } 0x83#8 = true := by
  refine ⟨?_, ?_, ?_, ?_, ?_, ?_, ?_⟩ <;> decide +kernel

/-! ### State registers: 95_test_vectors.md section 2.7 -/

theorem test_rdpsr : runs 0x91480000#32 (window 3#3 0#8 { start with psr := {
      icc := { n := false, z := true, v := false, c := false }, ec := false, ef := true, pil := 15#4, s := true
      ps := false, et := false, cwp := 3#3 } }) (fun t => r 8#5 t = 0x00401F83#32) = true := by decide +kernel
theorem test_rdwim : runs 0x91500000#32 (window 0#3 2#8 start) (fun t => r 8#5 t = 2#32) = true := by decide +kernel
theorem test_rdtbr : runs 0x91580000#32 { start with tbr := { tba := 0x40000#20, tt := 0x90#8 } } (fun t =>
    r 8#5 t = 0x40000900#32) = true := by decide +kernel
theorem test_rdy_rdasr :
    runs 0x91400000#32 { start with y := 0xFFFFFFFE#32 } (fun t => r 8#5 t = 0xFFFFFFFE#32) = true ∧
    runs 0x9141C000#32 { user start with y := 0x1234#32 } (fun t => r 8#5 t = 0x1234#32) = true ∧
    runs 0x9147C000#32 { start with iccr := 7#32 } (fun t => r 8#5 t = 7#32) = true ∧
    runs 0x91478000#32 { start with diag := 9#32 } (fun t => r 8#5 t = 9#32) = true := by
  refine ⟨?_, ?_, ?_, ?_⟩ <;> decide +kernel
theorem test_rdasr_traps :
    traps 0x91440000#32 (user start) 0x02#8 = true ∧ traps 0x91460000#32 start 0x02#8 = true ∧
    traps 0x91460000#32 (user start) 0x03#8 = true ∧ traps 0x9147C000#32 (user start) 0x03#8 = true ∧
    traps 0x91480000#32 (user start) 0x03#8 = true := by
  refine ⟨?_, ?_, ?_, ?_, ?_⟩ <;> decide +kernel
theorem test_wry : runs 0x818220FF#32 (given [(8#5, 0xFF00FF00#32)] start) (fun t => t.y = 0xFF00FFFF#32) = true := by decide +kernel
theorem test_wrasr :
    runs 0x8B820000#32 (given [(8#5, 7#32)] start) (fun t => t.y = 7#32) = true ∧
    runs 0xBF820000#32 (given [(8#5, 7#32)] start) (fun t => t.iccr = 7#32) = true ∧
    runs 0xBD820000#32 (given [(8#5, 7#32)] start) (fun t => t.diag = 7#32) = true ∧
    traps 0xA1820000#32 start 0x02#8 = true ∧ traps 0xB1820000#32 (user start) 0x03#8 = true := by
  refine ⟨?_, ?_, ?_, ?_, ?_⟩ <;> decide +kernel
theorem test_wrpsr : runs 0x81884000#32 (given [(1#5, 0xFFFFFFE7#32)] start) (fun t =>
    psrWord t.cfg t.psr = 0x00F03FE7#32) = true := by decide +kernel
theorem test_wrpsr_illegal :
    traps 0x81884000#32 (given [(1#5, 0x000000E8#32)] start) 0x02#8 = true ∧
    traps 0x81884000#32 (given [(1#5, 0x0000009F#32)] start) 0x02#8 = true := by
  refine ⟨?_, ?_⟩ <;> decide +kernel
theorem test_wrwim : runs 0x81904000#32 (given [(1#5, 0xFFFFFFFF#32)] start) (fun t => t.wim = 0xFF#8) = true := by decide +kernel
theorem test_wrtbr : runs 0x81984000#32 (given [(1#5, 0x40000ABC#32)] { start with tbr := { tba := 0#20, tt := 5#8 } }) (fun t =>
    vectorAddress t.tbr.tba t.tbr.tt = 0x40000050#32) = true := by decide +kernel

/-! ### Delayed writes: 95_test_vectors.md section 2.8 -/

/-- Inside the window of WRY, UMUL's write of Y is final. -/
theorem test_umul_in_window : runs 0x94520008#32 (given [(8#5, 0x22222222#32)] { start with
      delays := { noDelays with y := { count := 3, masked := true } } }) (fun t =>
    decide (r 10#5 t = 0x1D950C84#32 ∧ t.y = 0x048D159E#32 ∧ t.delays.y.masked = false)) = true := by decide +kernel

/-! ### Traps and interrupts: 95_test_vectors.md section 2.9 -/

/-- A step with a request level, PIL and the annul flag, from user mode in window 4. -/
def interrupted (irl pil : BitVec 4) (annul : Bool) (npc : Word) : State :=
  { start with inputs := { irl := irl, resetReq := false }, annul := annul, npc := npc
               psr := { start.psr with s := false, pil := pil, cwp := 4#3 } }

def enters (s : State) (tt : BitVec 8) (pc npc : Word) : Bool :=
  match step s with
  | .next t => decide (t.tbr.tt = tt ∧ t.psr.cwp = 3#3 ∧ r 17#5 t = pc ∧ r 18#5 t = npc ∧ t.annul = false)
  | _ => false

theorem test_interrupt :
    enters (interrupted 5#4 4#4 false 0x1004#32) 0x15#8 0x1000#32 0x1004#32 = true ∧
    enters (interrupted 15#4 15#4 false 0x1004#32) 0x1F#8 0x1000#32 0x1004#32 = true ∧
    enters (interrupted 5#4 4#4 true 0x2000#32) 0x15#8 0x2000#32 0x2004#32 = true := by
  refine ⟨?_, ?_, ?_⟩ <;> decide +kernel
theorem test_no_interrupt :
    interruptTaken (interrupted 5#4 5#4 false 0x1004#32) = false ∧
    interruptTaken (interrupted 14#4 15#4 false 0x1004#32) = false ∧
    interruptTaken (interrupted 0#4 0#4 false 0x1004#32) = false := by
  refine ⟨?_, ?_, ?_⟩ <;> decide +kernel
theorem test_illegal_words :
    traps 0x0000000C#32 start 0x02#8 = true ∧ traps 0x00400000#32 start 0x02#8 = true ∧
    traps 0x80480000#32 start 0x02#8 = true ∧ traps 0x81600000#32 start 0x02#8 = true ∧
    traps 0x81F00000#32 start 0x02#8 = true ∧ traps 0xC0400000#32 start 0x02#8 = true ∧
    traps 0xC1F80000#32 start 0x02#8 = true := by
  refine ⟨?_, ?_, ?_, ?_, ?_, ?_, ?_⟩ <;> decide +kernel
theorem test_disabled_units :
    traps 0x81A00820#32 start 0x04#8 = true ∧ traps 0x81B00000#32 start 0x24#8 = true ∧
    traps 0x81B80000#32 start 0x24#8 = true ∧ traps 0xC5822000#32 dataState 0x24#8 = true ∧
    traps 0xC1B22000#32 (user dataState) 0x03#8 = true := by
  refine ⟨?_, ?_, ?_, ?_, ?_⟩ <;> decide +kernel
theorem test_flush :
    runs 0x81D82000#32 { start with iccr := 2#32 } (fun t => t.pc = 0x1004#32) = true ∧
    traps 0x81D82000#32 start 0x25#8 = true := by
  refine ⟨?_, ?_⟩ <;> decide +kernel
theorem test_error_mode : halts 0x94720000#32 { start with psr := { start.psr with et := false } } 0x2A#8 = true := by decide +kernel

/-! ### Floating-point loads and stores: 95_test_vectors.md section 2.2 -/

theorem test_ldf_lddf :
    runs 0xC5022000#32 (fpu dataState) (fun t => readF 2#5 t = 0x8001FE7F#32) = true ∧
    runs 0xC91A2008#32 (fpu dataState) (fun t => decide (readF 4#5 t = 0x9ABCDEF0#32 ∧ readF 5#5 t = 0x0F1E2D3C#32)) = true := by
  refine ⟨?_, ?_⟩ <;> decide +kernel
theorem test_ldfsr : runs 0xC10A2004#32 (fpu dataState) (fun t => fsrWord t = 0x02000678#32) = true := by decide +kernel
theorem test_stf_stdf :
    runs 0xC5222004#32 (floats [(2#5, 0x3F800000#32)] dataState) (fun t => readWord 0x0B#8 0x2004#32 t = 0x3F800000#32) = true ∧
    runs 0xC93A2008#32 (floats [(4#5, 0x3FF00000#32), (5#5, 1#32)] dataState) (fun t =>
      decide (readWord 0x0B#8 0x2008#32 t = 0x3FF00000#32 ∧ readWord 0x0B#8 0x200C#32 t = 1#32)) = true := by
  refine ⟨?_, ?_⟩ <;> decide +kernel
theorem test_stfsr : runs 0xC12A2000#32 (let s := fpu dataState; { s with fpu := { s.fpu with fsr := {
      rd := 1#2, tem := 0#5, ns := false, ftt := 0#3, fcc := 2#2, aexc := 1#5, cexc := 0#5 } } }) (fun t =>
    readWord 0x0B#8 0x2000#32 t = 0x40000820#32) = true := by decide +kernel

/-- The FPU in a mode, with one entry in its queue. -/
def heldState (m : FpuMode) : State := let s := fpu dataState
  { s with fpu := { s.fpu with mode := m, queue := [{ addr := 0x4000#32, instr := 0x81A00821#32 }] } }

theorem test_stdfq : runs 0xC1322000#32 (heldState .exception) (fun t =>
    decide (readWord 0x0B#8 0x2000#32 t = 0x4000#32 ∧ readWord 0x0B#8 0x2004#32 t = 0x81A00821#32 ∧ t.fpu.queue = [] ∧
      t.fpu.mode = .execute)) = true := by decide +kernel
theorem test_stdfq_traps :
    traps 0xC1322000#32 (user dataState) 0x03#8 = true ∧ traps 0xC1322000#32 (fpu dataState) 0x08#8 = true ∧
    runs 0xC1322000#32 (fpu dataState) (fun t => t.fpu.fsr.ftt = 4#3) = true := by
  refine ⟨?_, ?_, ?_⟩ <;> decide +kernel
theorem test_fp_pending :
    traps 0xC5022000#32 (heldState .exceptionPending) 0x08#8 = true ∧
    runs 0xC5022000#32 (heldState .exceptionPending) (fun t => t.fpu.mode = .exception) = true ∧
    traps 0xC5022000#32 (given [(8#5, 0x2001#32)] (heldState .exceptionPending)) 0x07#8 = true ∧
    traps 0xC5022000#32 (given [(8#5, 0x2001#32)] dataState) 0x04#8 = true := by
  refine ⟨?_, ?_, ?_, ?_⟩ <;> decide +kernel

/-! ### Floating-point operate: 95_test_vectors.md section 2.10 -/

/-- f[4] and f[8] (singles) give f[12] and cexc, under a rounding direction. -/
def single2 (w : Word) (rd : BitVec 2) (a b v : Word) (exc : BitVec 5) : Bool :=
  let s := floats [(4#5, a), (8#5, b)] start
  runs w { s with fpu := { s.fpu with fsr := { s.fpu.fsr with rd := rd } } } fun t =>
    decide (readF 12#5 t = v ∧ t.fpu.fsr.cexc = exc ∧ t.fpu.fsr.aexc = exc ∧ t.fpu.mode = .execute)

/-- f[4], f[5] give f[8], f[9] and cexc. -/
def unary (w : Word) (a a' v v' : Word) (exc : BitVec 5) : Bool :=
  runs w (floats [(4#5, a), (5#5, a')] start) fun t =>
    decide (readF 8#5 t = v ∧ readF 9#5 t = v' ∧ t.fpu.fsr.cexc = exc ∧ t.fpu.fsr.aexc = exc)

/-- Two doubles from f[4] and f[8] give f[12], f[13] and cexc. -/
def double2 (w : Word) (a a' b b' v v' : Word) (exc : BitVec 5) : Bool :=
  runs w (floats [(4#5, a), (5#5, a'), (8#5, b), (9#5, b')] start) fun t =>
    decide (readF 12#5 t = v ∧ readF 13#5 t = v' ∧ t.fpu.fsr.cexc = exc)

theorem test_fmov_fneg_fabs :
    unary 0x91A00024#32 0x7FA00000#32 0#32 0x7FA00000#32 0#32 0#5 = true ∧
    unary 0x91A000A4#32 0x7FC00000#32 0#32 0xFFC00000#32 0#32 0#5 = true ∧
    unary 0x91A00124#32 0xC0200000#32 0#32 0x40200000#32 0#32 0#5 = true := by
  refine ⟨?_, ?_, ?_⟩ <;> decide +kernel
theorem test_fsqrts : unary 0x91A00524#32 0x40000000#32 0#32 0x3FB504F3#32 0#32 0b00001#5 = true := by decide +kernel
theorem test_fsqrtd : unary 0x91A00544#32 0x40000000#32 0#32 0x3FF6A09E#32 0x667F3BCD#32 0b00001#5 = true := by decide +kernel
theorem test_fadds_rounding :
    single2 0x99A10828#32 0#2 0x4B800000#32 0x3F800000#32 0x4B800000#32 0b00001#5 = true ∧
    single2 0x99A10828#32 2#2 0x4B800000#32 0x3F800000#32 0x4B800001#32 0b00001#5 = true ∧
    single2 0x99A10828#32 0#2 0x7F800000#32 0xFF800000#32 0x7FFFFFFF#32 0b10000#5 = true := by
  refine ⟨?_, ?_, ?_⟩ <;> decide +kernel
theorem test_faddd : double2 0x99A10848#32 0x3FF00000#32 0#32 0x3FE00000#32 0#32 0x3FF80000#32 0#32 0#5 = true := by decide +kernel
theorem test_fsubs : single2 0x99A108A8#32 0#2 0x40400000#32 0x3FC00000#32 0x3FC00000#32 0#5 = true := by decide +kernel
theorem test_fmuls : single2 0x99A10928#32 0#2 0x3DCCCCCD#32 0x3DCCCCCD#32 0x3C23D70B#32 0b00001#5 = true := by decide +kernel
theorem test_fmuld : double2 0x99A10948#32 0x3FF80000#32 0#32 0x3FF80000#32 0#32 0x40020000#32 0#32 0#5 = true := by decide +kernel
theorem test_fsmuld : double2 0x99A10D28#32 0x3DCCCCCD#32 0#32 0x3DCCCCCD#32 0#32 0x3F847AE1#32 0x51EB8520#32 0#5 = true := by
  decide +kernel
theorem test_fdivs :
    single2 0x99A109A8#32 0#2 0x3F800000#32 0x40400000#32 0x3EAAAAAB#32 0b00001#5 = true ∧
    single2 0x99A109A8#32 0#2 0x3F800000#32 0#32 0x7F800000#32 0b00010#5 = true ∧
    single2 0x99A109A8#32 0#2 0#32 0#32 0x7FFFFFFF#32 0b10000#5 = true := by
  refine ⟨?_, ?_, ?_⟩ <;> decide +kernel
theorem test_fdivd : double2 0x99A109C8#32 0x3FF00000#32 0#32 0x40080000#32 0#32 0x3FD55555#32 0x55555555#32 0b00001#5 = true := by
  decide +kernel
theorem test_fito :
    unary 0x91A01884#32 0x01000001#32 0#32 0x4B800000#32 0#32 0b00001#5 = true ∧
    unary 0x91A01884#32 0x80000000#32 0#32 0xCF000000#32 0#32 0#5 = true ∧
    unary 0x91A01904#32 0xFFFFFFFE#32 0#32 0xC0000000#32 0#32 0#5 = true := by
  refine ⟨?_, ?_, ?_⟩ <;> decide +kernel
theorem test_ftoi :
    unary 0x91A01A24#32 0xC0200000#32 0#32 0xFFFFFFFE#32 0#32 0b00001#5 = true ∧
    unary 0x91A01A24#32 0x4F000000#32 0#32 0x7FFFFFFF#32 0#32 0b10000#5 = true ∧
    unary 0x91A01A24#32 0xCF000000#32 0#32 0x80000000#32 0#32 0#5 = true ∧
    unary 0x91A01A44#32 0x3FF80000#32 0#32 1#32 0#32 0b00001#5 = true := by
  refine ⟨?_, ?_, ?_, ?_⟩ <;> decide +kernel
theorem test_convert :
    unary 0x91A01924#32 0x3DCCCCCD#32 0#32 0x3FB99999#32 0xA0000000#32 0#5 = true ∧
    unary 0x91A01924#32 0x7FA00000#32 0#32 0x7FFC0000#32 0#32 0b10000#5 = true ∧
    unary 0x91A018C4#32 0x3FB99999#32 0x9999999A#32 0x3DCCCCCD#32 0#32 0b00001#5 = true ∧
    unary 0x91A018C4#32 0x47F00000#32 0#32 0x7F800000#32 0#32 0b01001#5 = true := by
  refine ⟨?_, ?_, ?_, ?_⟩ <;> decide +kernel

/-- A compare of f[4] with f[8] gives fcc and cexc. -/
def compares (w : Word) (a b : Word) (c : BitVec 2) (exc : BitVec 5) : Bool :=
  runs w (floats [(4#5, a), (8#5, b)] start) fun t => decide (t.fpu.fsr.fcc = c ∧ t.fpu.fsr.cexc = exc)

theorem test_fcmp :
    compares 0x81A90A28#32 0x3F800000#32 0x40000000#32 1#2 0#5 = true ∧
    compares 0x81A90A28#32 0x40000000#32 0x3F800000#32 2#2 0#5 = true ∧
    compares 0x81A90A28#32 0x80000000#32 0#32 0#2 0#5 = true ∧
    compares 0x81A90A28#32 0x7FC00000#32 0#32 3#2 0#5 = true ∧
    compares 0x81A90A28#32 0x7FA00000#32 0#32 3#2 0b10000#5 = true ∧
    compares 0x81A90AA8#32 0x7FC00000#32 0#32 3#2 0b10000#5 = true := by
  refine ⟨?_, ?_, ?_, ?_, ?_, ?_⟩ <;> decide +kernel

/-- The trapping FDIVs, the quad FPop and the unassigned opf of section 2.10. -/
def holds (w : Word) (tem : BitVec 5) (ftt : BitVec 3) (cexc : BitVec 5) : Bool :=
  let s := floats [(4#5, 0x3F800000#32)] start
  runs w { s with fpu := { s.fpu with fsr := { s.fpu.fsr with tem := tem } } } fun t =>
    decide (t.fpu.queue = [{ addr := 0x1000#32, instr := w }] ∧ t.fpu.fsr.ftt = ftt ∧ t.fpu.fsr.cexc = cexc ∧
      t.fpu.fsr.aexc = 0#5 ∧ t.fpu.mode = .exceptionPending ∧ t.pc = 0x1004#32)

theorem test_fpop_held :
    holds 0x99A109A8#32 0b00010#5 1#3 0b00010#5 = true ∧ holds 0x99A10868#32 0#5 3#3 0#5 = true ∧
    holds 0x81A00000#32 0#5 3#3 0#5 = true := by
  refine ⟨?_, ?_, ?_⟩ <;> decide +kernel

/-- Quad operations with QUAD_FP on the words of f[4] to f[7] and f[8] to f[11] (R428, R442, R447, R451, R454). -/
def quads (l : List (RegNum × Word)) : State := let s := floats l start; { s with cfg := { s.cfg with quadFp := true } }

theorem test_quad_zero :
    runs 0x99A10868#32 (quads []) (fun t => decide (readF 12#5 t = 0#32 ∧ t.fpu.fsr.cexc = 0#5)) = true ∧
    runs 0x99A10968#32 (quads [(4#5, 0x80000000#32)]) (fun t => readF 12#5 t = 0x80000000#32) = true ∧
    runs 0x81A90A68#32 (quads [(4#5, 0x80000000#32)]) (fun t => t.fpu.fsr.fcc = 0#2) = true := by
  refine ⟨?_, ?_, ?_⟩ <;> decide +kernel
theorem test_quad_convert :
    runs 0x91A01984#32 (quads [(4#5, 1#32)]) (fun t => decide (readF 8#5 t = 0x3FFF0000#32 ∧ readF 9#5 t = 0#32)) = true ∧
    runs 0x91A019A4#32 (quads [(4#5, 0x3F800000#32)]) (fun t => readF 8#5 t = 0x3FFF0000#32) = true ∧
    runs 0x91A01964#32 (quads [(4#5, 0x3FFF0000#32)]) (fun t => readF 8#5 t = 0x3FF00000#32) = true := by
  refine ⟨?_, ?_, ?_⟩ <;> decide +kernel

/-! ### The hypotheses of the statements can be met: a concrete state and operands for each, each clause on its own,
the boundary values of the ranges among them -/

/-- `start` with %o0 at an address. -/
def addr (a : Word) (s : State) : State := given [(8#5, a)] s

/-- Interrupts off. -/
def disabled (s : State) : State := { s with psr := { s.psr with et := false } }

/-- Whether an outcome is a next state: the hypothesis that an instruction or a step answers one. -/
def completes (o : Outcome) : Bool :=
  match o with
  | .next _ => true
  | _ => false

/-- No memory at all. -/
def unmapped (s : State) : State := { s with cfg := { s.cfg with access := [] } }

def odd (o : OddRd) (s : State) : State := { s with cfg := { s.cfg with oddRd := o } }
def legalFirst (s : State) : State := { s with cfg := { s.cfg with privBeforeIllegal := false } }

theorem test_witness_DecodeEncodeAgree : (Instr.rdasr 8#5 1#5).WellFormed ∧ (Instr.wrasr 31#5 8#5 (.imm 0x1FFF#13)).WellFormed := by
  decide

theorem test_witness_DecodedWellFormed :
    decode 0x81404000#32 = .instr (.rdasr 0#5 1#5) ∧ decode 0x83800000#32 = .instr (.wrasr 1#5 0#5 (.reg 0#5)) := by decide

/-- `start` with a word where the next step fetches. -/
def fetching (w : Word) (s : State) : State := s.withFetchWord 32 w.toNat

theorem test_witness_StepRunsDecoded :
    let b := boundary (fetching 0x94020009#32 start)
    b.inputs.resetReq = false ∧ b.mode = .run ∧ interruptTaken b = false ∧ b.annul = false ∧
      accessOk b.cfg .execute 4 (fetchSpace b) b.pc = true ∧
      (∀ k < 4, isDevice b.cfg (fetchSpace b) (b.pc + BitVec.ofNat 32 k) = false) ∧ staleValues b.pc b = [] ∧
      decode (readWord (fetchSpace b) b.pc b) = .instr (.add 10#5 8#5 (.reg 9#5)) := by decide +kernel

/-- `start` with another agent's stores at the next boundary (R592(d)). -/
def sharing (l : List OutsideStore) (s : State) : State := { s with schedule := [{ inputs := s.inputs, stores := l }] }

/-- A word that another agent stores at pc is memory's word there, and the older one may still be fetched (R98). -/
theorem test_witness_StepRunsDecoded_stale :
    let b := boundary (sharing [.word 0x09#8 0x400#30 0x94020009#32] start)
    accessOk b.cfg .execute 4 (fetchSpace b) b.pc = true ∧ staleValues b.pc b = [0#32] ∧
      decode (readWord (fetchSpace b) b.pc b) = .instr (.add 10#5 8#5 (.reg 9#5)) := by decide +kernel

/-- The stores of other agents come in their order, and a step sees them: `ld [%g1], %g2`. -/
theorem test_outside_stores :
    (match step (sharing [.word 0x0B#8 0x800#30 0x11223344#32, .half 0x0B#8 0x1001#31 0x5566#16, .byte 0x0B#8 0x2000#32 0x77#8]
        (holding [(0x1000#32, 0xC4004000#32)] (given [(1#5, 0x2000#32)] start))) with
      | .next t => r 2#5 t
      | _ => 0#32) = 0x77225566#32 := by decide +kernel

/-- What every statement about a step that runs asks of the boundary state. -/
def readyToRun (b : State) : Bool :=
  decide (Settled b) && !b.inputs.resetReq && decide (b.mode = .run) && !interruptTaken b && !b.annul

theorem test_witness_StepRejectsWord_refused :
    readyToRun (boundary (unmapped start)) = true ∧ fetch (boundary (unmapped start)) = none := by decide +kernel

theorem test_witness_StepRejectsWord_unassigned :
    let b := boundary (fetching 0x00400000#32 start)
    readyToRun b = true ∧ fetch b = some 0x00400000#32 ∧ decode 0x00400000#32 = .unassigned := by decide +kernel

theorem test_witness_StepRejectsWord_fpop :
    let b := boundary (fetching 0x81A00000#32 (fpu start))
    readyToRun b = true ∧ fetch b = some 0x81A00000#32 ∧ decode 0x81A00000#32 = .unimplementedFpop ∧ FpuReady b := by
  decide +kernel

/-- A reset asked for, and error mode. -/
def resetAsked (s : State) : State := { s with inputs := { s.inputs with resetReq := true } }
def halted (resets : Bool) (s : State) : State :=
  { s with mode := .error, cfg := { s.cfg with errorModeResets := resets } }

theorem test_witness_StepTakesReset :
    (boundary (resetAsked start)).inputs.resetReq = true ∧
    ((boundary (halted true start)).mode = .error ∧ (boundary (halted true start)).cfg.errorModeResets = true) := by decide

/-- All hypotheses, and which of the three clauses a state falls under. -/
def interruptClause (s : State) : Nat :=
  let b := boundary s
  if !(decide (Settled b) && !b.inputs.resetReq && decide (b.mode = .run)) then 0
  else if b.psr.et = true ∧ b.inputs.irl ≠ 0#4 ∧ (b.inputs.irl = 15#4 ∨ b.psr.pil.toNat < b.inputs.irl.toNat) then 1
  else if b.annul = true then 2 else 3

theorem test_witness_StepTakesInterrupt :
    interruptClause (interrupted 15#4 15#4 false 0x1004#32) = 1 ∧ interruptClause (interrupted 1#4 0#4 true 0x1004#32) = 1 ∧
    interruptClause (interrupted 14#4 14#4 true 0x1004#32) = 2 ∧ interruptClause (interrupted 0#4 0#4 false 0x1004#32) = 3 := by
  decide

theorem test_witness_StepInErrorMode :
    let s := halted false start
    let more := { s with schedule := [{ inputs := start.inputs, stores := [] }] }
    ((boundary s).mode = .error ∧ (boundary s).inputs.resetReq = false ∧ (boundary s).cfg.errorModeResets = false ∧
      s.schedule = []) ∧
    ((boundary more).mode = .error ∧ (boundary more).inputs.resetReq = false ∧
      (boundary more).cfg.errorModeResets = false ∧ more.schedule ≠ []) := by decide

/-- OperandsRead, AddSubtractResults, LogicalResults, ShiftSethiResults, MultiplyResults, MultiplyStepResult,
CompareConditions, TrapEntry and the clauses without a hypothesis of their own. -/
theorem test_witness_Settled : Settled start ∧ Settled (user start) ∧ Settled State.reset := by decide

theorem test_witness_SignedProductFits : Settled start ∧ (1#5 : RegNum) ≠ 0#5 := by decide

theorem test_witness_DivideResults : Settled start ∧ operand2 (.imm 1#13) start ≠ 0#32 := by decide

theorem test_witness_TaggedResults :
    let s := given [(8#5, 4#32)] start
    let a := operand1 8#5 s
    let b := operand2 (.imm 8#13) s
    Settled s ∧ (decide (a.toNat % 4 ≠ 0 ∨ b.toNat % 4 ≠ 0) || !fitsSigned (a.toInt + b.toInt)) = false ∧
      (decide (a.toNat % 4 ≠ 0 ∨ b.toNat % 4 ≠ 0) || !fitsSigned (a.toInt - b.toInt)) = false := by decide +kernel

theorem test_witness_ValueAndWindowTraps :
    Settled start ∧ operand2 (.reg 0#5) start = 0#32 ∧ (operand2 (.imm 1#13) start).toNat % 4 ≠ 0 ∧
    fitsSigned ((0x7FFFFFFC#32).toInt + (operand2 (.imm 4#13) start).toInt) = false ∧
    fitsSigned ((0x80000000#32).toInt - (operand2 (.imm 4#13) start).toInt) = false ∧
    (0x80#8).getLsbD ((window 0#3 0x80#8 start).psr.cwp - 1#3).toNat = true ∧
    (0x01#8).getLsbD ((window 7#3 0x01#8 start).psr.cwp + 1#3).toNat = true := by decide

/-- A state in which %o0 is an address and the memory is canonical. -/
def ready (a : Word) (kind : AccessKind) (n : Nat) (s : State) : Bool :=
  let t := addr a s
  decide (Settled t ∧ MemoryCanonical t ∧ AccessPermitted kind n (modeDataSpace t) (effectiveAddress 8#5 (.imm 0#13) t) t)

/-- LoadResults, at the top of the address space. -/
theorem test_witness_LoadResults :
    ready 0xFFFFFFFC#32 .read 4 start = true ∧ ready 0xFFFFFFFF#32 .read 1 start = true ∧
    ready 0xFFFFFFFE#32 .read 2 (user start) = true ∧ ready 0xFFFFFFF8#32 .read 8 start = true ∧
    PairNumber 30#5 start ∧ PairNumber 31#5 (odd .forceEven start) ∧ isDevice start.cfg 0x0B#8 0xFFFFFFFF#32 = false := by
  decide +kernel

/-- AlternateLoadResults and AlternateStoreEffects: the four standard spaces are the ones of the default map. -/
theorem test_witness_AlternateLoadResults :
    let t := addr 0xFFFFFFF8#32 start
    let ea := alternateAddress 8#5 0#5 t
    Settled t ∧ MemoryCanonical t ∧ t.psr.s = true ∧ PairNumber 30#5 t ∧
      (∀ asi ∈ [0x08#8, 0x0B#8], ∀ n ∈ [1, 2, 4, 8], AccessPermitted .read n asi ea t ∧ AccessPermitted .write n asi ea t) := by
  decide +kernel

/-- StoreEffects. -/
theorem test_witness_StoreEffects :
    ready 0xFFFFFFFC#32 .write 4 start = true ∧ ready 0xFFFFFFFF#32 .write 1 start = true ∧
    ready 0xFFFFFFFE#32 .write 2 (user start) = true ∧ ready 0xFFFFFFF8#32 .write 8 start = true := by decide +kernel

/-- AtomicEffects. -/
theorem test_witness_AtomicEffects :
    ready 0xFFFFFFFF#32 .atomic 1 start = true ∧ ready 0xFFFFFFFC#32 .atomic 4 start = true ∧
    (let t := addr 0xFFFFFFFC#32 start
     Settled t ∧ MemoryCanonical t ∧ t.psr.s = true ∧ AccessPermitted .atomic 1 0x08#8 (alternateAddress 8#5 0#5 t) t ∧
       AccessPermitted .atomic 4 0x0B#8 (alternateAddress 8#5 0#5 t) t) := by decide +kernel

theorem test_witness_StoreThenLoad :
    ready 0xFFFFFFFC#32 .write 4 start = true ∧ ready 0xFFFFFFFC#32 .read 4 start = true ∧
    (∀ k < 4, isDevice start.cfg (modeDataSpace start) (0xFFFFFFFC#32 + BitVec.ofNat 32 k) = false) ∧
    completes (exec (.st 9#5 8#5 (.imm 0#13)) (addr 0xFFFFFFFC#32 start)) = true ∧
    (let t := addr 0xFFFFFFFC#32 start
     (∀ k ∈ [0, 2], effectiveAddress 8#5 (.imm (BitVec.ofNat 13 k)) t = 0xFFFFFFFC#32 + BitVec.ofNat 32 k ∧
       accessOk t.cfg .read 2 (modeDataSpace t) (0xFFFFFFFC#32 + BitVec.ofNat 32 k) = true) ∧
     (∀ k < 4, effectiveAddress 8#5 (.imm (BitVec.ofNat 13 k)) t = 0xFFFFFFFC#32 + BitVec.ofNat 32 k ∧
       accessOk t.cfg .read 1 (modeDataSpace t) (0xFFFFFFFC#32 + BitVec.ofNat 32 k) = true)) := by decide +kernel

theorem pairReady_even {i : Instr} {rd : RegNum} (h : pairOf i = some rd) (he : oddNumber rd = false) (s : State) :
    PairReady i s := by
  intro n hn
  rw [h] at hn
  cases hn
  exact .inl he

theorem pairReady_single {i : Instr} (h : pairOf i = none) (s : State) : PairReady i s := by
  intro n hn
  rw [h] at hn
  cases hn

theorem test_witness_AccessTraps_integer :
    let i := Instr.ldd 30#5 8#5 (.imm 0#13)
    PairReady i (addr 4#32 start) ∧ integerAccess i = some (.read, 8, 8#5, .imm 0#13) ∧
    (Settled (addr 4#32 start) ∧ (effectiveAddress 8#5 (.imm 0#13) (addr 4#32 start)).toNat % 8 ≠ 0) ∧
    (let t := unmapped (addr 8#32 start)
     Settled t ∧ (effectiveAddress 8#5 (.imm 0#13) t).toNat % 8 = 0 ∧ accessOk t.cfg .read 8 (modeDataSpace t) 8#32 = false) :=
  ⟨pairReady_even rfl rfl _, rfl, by decide +kernel, by decide +kernel⟩

theorem test_witness_AccessTraps_alternate :
    let i := Instr.swapa 9#5 8#5 (.reg 0#5 0x20#8)
    PairReady i start ∧ alternateAccess i = some (.atomic, 4, 8#5, .reg 0#5 0x20#8) ∧ start.psr.s = true ∧
    (alternateAddress 8#5 0#5 (addr 2#32 start)).toNat % 4 ≠ 0 ∧
    ((alternateAddress 8#5 0#5 (addr 4#32 start)).toNat % 4 = 0 ∧ accessOk start.cfg .atomic 4 0x20#8 4#32 = false) :=
  ⟨pairReady_single rfl _, rfl, by decide, by decide +kernel, by decide +kernel⟩

theorem test_witness_AccessTraps_floating :
    let i := Instr.stdfq 8#5 (.imm 0#13)
    let j := Instr.stf 9#5 8#5 (.imm 0#13)
    PairReady i (fpu (addr 4#32 start)) ∧ fpAccessOf i = some (.write, 8, 8#5, .imm 0#13) ∧
    PairReady j (fpu (addr 4#32 start)) ∧ fpAccessOf j = some (.write, 4, 8#5, .imm 0#13) ∧ queueStore j = false ∧
    (FpuReady (fpu (addr 4#32 start)) ∧ (fpu start).psr.s = true ∧
      (effectiveAddress 8#5 (.imm 0#13) (fpu (addr 4#32 start))).toNat % 8 ≠ 0) ∧
    (let t := unmapped (fpu (addr 4#32 start))
     FpuReady t ∧ (effectiveAddress 8#5 (.imm 0#13) t).toNat % 4 = 0 ∧ accessOk t.cfg .write 4 (modeDataSpace t) 4#32 = false) ∧
    (let t := addr 4#32 (heldState .exceptionPending)
     Settled t ∧ t.cfg.hasFpu = true ∧ t.psr.ef = true ∧ (effectiveAddress 8#5 (.imm 0#13) t).toNat % 8 ≠ 0) ∧
    (let t := unmapped (addr 8#32 (heldState .exception))
     Settled t ∧ t.cfg.hasFpu = true ∧ t.psr.ef = true ∧ t.psr.s = true ∧ t.fpu.mode = .exception ∧ t.fpu.queue ≠ [] ∧
       (effectiveAddress 8#5 (.imm 0#13) t).toNat % 8 = 0 ∧ accessOk t.cfg .write 8 (modeDataSpace t) 8#32 = false) :=
  ⟨pairReady_single rfl _, rfl, pairReady_single rfl _, rfl, rfl, by decide +kernel, by decide +kernel, by decide +kernel,
    by decide +kernel⟩

/-- The clauses of FormTraps: a register form and an immediate form in user mode, and an odd rd under both settings of
ODD_RD that stop it, in both modes. -/
theorem test_witness_FormTraps :
    let i := Instr.ldda 30#5 8#5 (.reg 9#5 0x0A#8)
    alternateAccess i = some (.read, 8, 8#5, .reg 9#5 0x0A#8) ∧ PairReady i (user start) ∧
    alternateAccess (.lda 9#5 8#5 (.imm 0#13)) = some (.read, 4, 8#5, .imm 0#13) ∧
    (Settled (user start) ∧ (user start).psr.s = false) ∧ oddNumber 1#5 = true ∧ oddNumber 31#5 = true ∧
    (Settled (odd .illegalInstruction start) ∧ (odd .illegalInstruction start).cfg.oddRd = .illegalInstruction) ∧
    (Settled (odd .refuse start) ∧ (odd .refuse start).cfg.oddRd = .refuse ∧ (odd .refuse start).psr.s = true) ∧
    (Settled (odd .refuse (user start)) ∧ (odd .refuse (user start)).psr.s = false) ∧
    (∀ o ∈ [OddRd.refuse, OddRd.illegalInstruction], Settled (odd o (coprocessor start)) ∧
      (odd o (coprocessor start)).cfg.hasCp = true ∧ (odd o (coprocessor start)).cfg.oddRd = o) :=
  ⟨rfl, pairReady_even rfl rfl _, rfl, by decide, by decide, by decide, by decide, by decide, by decide, by decide⟩

/-- SaveRestoreEffects, RettReturns: window 0 and window 7, the other window valid. -/
theorem test_witness_SaveRestoreEffects :
    (Settled (window 0#3 0x7F#8 start) ∧ (0x7F#8).getLsbD ((0#3 : WindowNum) - 1#3).toNat = false) ∧
    (Settled (window 7#3 0xFE#8 start) ∧ (0xFE#8).getLsbD ((7#3 : WindowNum) + 1#3).toNat = false) := by decide

theorem test_witness_BiccEffects : Settled start ∧ iccBranch (.ba true 0x200000#22) = some (0b1000#4, true, 0x200000#22) ∧
    iccBranch (.bvc false 1#22) = some (0b1111#4, false, 1#22) := by decide

theorem test_witness_FbfccEffects : FpuReady (fcc 3#2) ∧ fccBranch (.fba true 1#22) = some ([0#2, 1#2, 2#2, 3#2], true, true, 1#22) ∧
    fccBranch (.fbn true 1#22) = some ([], false, true, 1#22) := by decide

theorem test_witness_CbcccEffects : CpReady (ccc 3#2) ∧ cccBranch (.cba true 1#22) = some ([0#2, 1#2, 2#2, 3#2], true, true, 1#22) ∧
    cccBranch (.cbn true 1#22) = some ([], false, true, 1#22) := by decide

theorem test_witness_CallJmplEffects :
    Settled start ∧ (operand1 8#5 (addr 0xFFFFFFFC#32 start) + operand2 (.imm 0#13) start).toNat % 4 = 0 ∧
    (operand1 8#5 (addr 3#32 start) + operand2 (.imm 0#13) start).toNat % 4 ≠ 0 := by decide +kernel

theorem test_witness_TiccEffects :
    Settled start ∧ iccTrap (.ta 0#5 (.imm 0x7F#13)) = some (0b1000#4, 0#5, .imm 0x7F#13) ∧
    evalIcc 0b1000#4 start.psr.icc = true ∧ iccTrap (.tn 0#5 (.imm 0x7F#13)) = some (0b0000#4, 0#5, .imm 0x7F#13) ∧
    evalIcc 0b0000#4 start.psr.icc = false := by decide

/-- RettReturns, and the clauses of RettTraps. -/
theorem test_witness_RettReturns :
    let s := rettState true false false 2#8 0x4004#32
    Settled s ∧ s.psr.et = false ∧ s.psr.s = true ∧ s.wim.getLsbD (s.psr.cwp + 1#3).toNat = false ∧
      (effectiveAddress 18#5 (.imm 0#13) s).toNat % 4 = 0 := by decide +kernel

theorem test_witness_RettTraps :
    (Settled start ∧ start.psr.et = true) ∧
    (let s := rettState false false false 2#8 0x4004#32
     Settled s ∧ s.psr.et = false ∧ s.psr.s = false) ∧
    (let s := rettState true false false 1#8 0x4004#32
     Settled s ∧ s.psr.et = false ∧ s.psr.s = true ∧ s.wim.getLsbD (s.psr.cwp + 1#3).toNat = true) ∧
    (let s := rettState true false false 2#8 0x4006#32
     Settled s ∧ s.psr.et = false ∧ s.psr.s = true ∧ s.wim.getLsbD (s.psr.cwp + 1#3).toNat = false ∧
       (effectiveAddress 18#5 (.imm 0#13) s).toNat % 4 ≠ 0) := by
  refine ⟨?_, ?_, ?_, ?_⟩ <;> decide +kernel

theorem test_witness_StateRegisterReads :
    Settled start ∧ start.psr.s = true ∧ start.cfg.asrDecode = .table ∧ start.cfg.hasHyperSparcAsr = true ∧
    (15#5 : RegNum).toNat < 16 ∧ { start.cfg with asrDecode := .ignore }.asrDecode = .ignore := by decide

theorem test_witness_StateRegisterWrites :
    let v := operand1 1#5 start ^^^ operand2 (.imm 7#13) start
    let w := operand1 1#5 (fpu start) ^^^ operand2 (.imm 7#13) (fpu start)
    Settled start ∧ start.psr.s = true ∧ (v.extractLsb' 0 5).toNat < 8 ∧
      (start.psr.ef = true → v.getLsbD 12 = false → start.fpu.mode = .execute) ∧
    (Settled (fpu start) ∧ (fpu start).psr.ef = true ∧ w.getLsbD 12 = false ∧ (fpu start).fpu.mode = .execute) := by
  decide +kernel

theorem test_witness_StateRegisterTraps :
    (Settled (user start) ∧ (user start).psr.s = false) ∧ (Settled start ∧ start.cfg.asrDecode = .table) ∧
    (let t : State := { start with cfg := { start.cfg with hasHyperSparcAsr := false } }
     Settled t ∧ t.cfg.hasHyperSparcAsr = false ∧ 24 ≤ (31#5 : RegNum).toNat) ∧
    8 ≤ ((operand1 1#5 start ^^^ operand2 (.imm 8#13) start).extractLsb' 0 5).toNat ∧
    (let t := heldState .exception
     let v := operand1 1#5 t ^^^ operand2 (.imm 7#13) t
     Settled t ∧ t.psr.s = true ∧ (v.extractLsb' 0 5).toNat < 8 ∧ t.psr.ef = true ∧ v.getLsbD 12 = false ∧
       t.fpu.mode ≠ .execute) := by
  refine ⟨?_, ?_, ?_, ?_, ?_⟩ <;> decide +kernel

/-- The state that a step leads to. -/
def stepped (s : State) : State :=
  match step s with
  | .next t => t
  | _ => s

/-- A step that fetches a NOP, or passes an annulled slot, and goes on. -/
def goesOn (s : State) : Bool :=
  completes (step s) && !(boundary s).inputs.resetReq && decide ((boundary s).mode = .run) && !interruptTaken (boundary s)
    && ((boundary s).annul || decide (fetch (boundary s) = some 0x01000000#32)) && decide ((stepped s).mode = .run)
    && decide ((stepped s).psr.cwp ≠ (boundary s).psr.cwp - 1#3)

theorem executes_of_goesOn {s : State} (h : goesOn s = true) : Executes s (stepped s) := by
  simp only [goesOn, Bool.and_eq_true, Bool.or_eq_true, decide_eq_true_eq, Bool.not_eq_true'] at h
  obtain ⟨⟨⟨⟨⟨⟨hc, hr⟩, hm⟩, hi⟩, hf⟩, hm'⟩, hw⟩ := h
  refine ⟨?_, hr, hm, hi, hf.imp id fun hf => ⟨⟨_, hf, ?_⟩, Laws.not_trapEntered hm' hw⟩⟩
  · unfold stepped
    cases hs : step s <;> first | rfl | (rw [hs] at hc; cases hc)
  · have hd : decode 0x01000000#32 = .instr (.sethi 0#5 0#22) := by decide
    intro i hd'
    rw [hd] at hd'
    cases hd'
    rfl

/-- NOPs from 0x1000 on. -/
def nops : State :=
  holding [(0x1000#32, 0x01000000#32), (0x1004#32, 0x01000000#32), (0x1008#32, 0x01000000#32), (0x100C#32, 0x01000000#32)] start

/-- All six windows just opened. -/
def allOpen : Delays where
  psr := { count := 3, icc := true, ec := true, ef := true, s := false, ps := true, cwp := true, oldEt := [], oldPil := [7#4] }
  wim := { count := 3, mask := 0xFF#8 }
  tbr := { count := 3, oldTba := [1#20] }
  y := { count := 3, masked := true }
  diag := { count := 3, masked := true }
  iccr := { count := 3, masked := true, ftd := true }

/-- Three steps, the second over an annulled slot. -/
theorem test_witness_DelayWindow :
    let a : State := { nops with delays := allOpen }
    let b : State := { stepped a with annul := true }
    (DelaysBounded a.delays ∧ Executes a (stepped a) ∧ Executes (stepped a) (stepped (stepped a)) ∧
      Executes (stepped (stepped a)) (stepped (stepped (stepped a)))) ∧
    ((boundary b).inputs.resetReq = false ∧ (boundary b).mode = .run ∧ interruptTaken (boundary b) = false ∧
      (boundary b).annul = true ∧ Executes b (stepped b)) :=
  ⟨⟨by decide, executes_of_goesOn (by decide +kernel), executes_of_goesOn (by decide +kernel),
    executes_of_goesOn (by decide +kernel)⟩, by decide +kernel, by decide +kernel, by decide +kernel, by decide +kernel,
    executes_of_goesOn (by decide +kernel)⟩

/-- The clauses of TbaOldOrNew: WRTBR and the three instructions after it, and an interrupt taken. -/
theorem test_witness_TbaOldOrNew :
    let i := Instr.wrtbr 0#5 (.imm 0x1000#13)
    let a := stepped (fetching 0x81983000#32 nops)
    Settled nops ∧ nops.psr.s = true ∧ completes (exec i nops) = true ∧ decode 0x81983000#32 = .instr i ∧
    a.delays.tbr.oldTba = [0#20] ∧ Executes a (stepped a) ∧ Executes (stepped a) (stepped (stepped a)) ∧
    Executes (stepped (stepped a)) (stepped (stepped (stepped a))) ∧ start.delays.psr.oldEt = [] ∧
    interruptTaken (boundary (interrupted 15#4 15#4 false 0x1004#32)) = true :=
  ⟨by decide, rfl, by decide +kernel, by decide, by decide +kernel, executes_of_goesOn (by decide +kernel),
    executes_of_goesOn (by decide +kernel), executes_of_goesOn (by decide +kernel), rfl, by decide⟩

/-- FpLoadEffects and FpStoreEffects. -/
def fpAccessReady (a : Word) (kind : AccessKind) (n : Nat) (s : State) : Bool :=
  ready a kind n (fpu s) && decide (FpuReady (fpu s))

theorem test_witness_FpLoadEffects :
    fpAccessReady 0xFFFFFFFC#32 .read 4 start = true ∧ fpAccessReady 0xFFFFFFF8#32 .read 8 (user start) = true ∧
    PairNumber 30#5 start := by decide +kernel

theorem test_witness_FpStoreEffects :
    fpAccessReady 0xFFFFFFFC#32 .write 4 (user start) = true ∧ fpAccessReady 0xFFFFFFF8#32 .write 8 start = true ∧
    (let t := heldState .exception
     Settled t ∧ MemoryCanonical t ∧ t.cfg.hasFpu = true ∧ t.psr.ef = true ∧ t.fpu.mode ≠ .exceptionPending ∧ t.psr.s = true ∧
       t.fpu.queue = { addr := 0x4000#32, instr := 0x81A00821#32 } :: [] ∧
       AccessPermitted .write 8 (modeDataSpace t) (effectiveAddress 8#5 (.imm 0#13) t) t) := by decide +kernel

theorem test_witness_FpDisabledTraps :
    let i := Instr.stdfq 8#5 (.imm 0#13)
    isFloating i = true ∧ PairReady i start ∧ start.psr.s = true ∧ Settled start ∧ start.psr.ef = false ∧
    (let t : State := { fpu start with cfg := { start.cfg with hasFpu := false } }
     Settled t ∧ t.cfg.hasFpu = false) :=
  ⟨rfl, pairReady_single rfl _, rfl, by decide, rfl, by decide⟩

theorem test_witness_FpExceptionTraps :
    let i := Instr.fadds 1#5 2#5 3#5
    let j := Instr.stdfq 0#5 (.imm 8#13)
    isFloating i = true ∧ isFloating j = true ∧ fpAccessOf i = none ∧ fpAccessOf j = some (.write, 8, 0#5, .imm 8#13) ∧
    PairReady i start ∧ PairReady j start ∧
    (Settled (heldState .exceptionPending) ∧ (heldState .exceptionPending).fpu.mode = .exceptionPending) ∧
    (Settled (heldState .exception) ∧ (heldState .exception).fpu.mode = .exception) ∧
    (Settled (fpu start) ∧ (fpu start).psr.s = true ∧ (fpu start).fpu.mode ≠ .exceptionPending ∧ queueStore j = true ∧
      (fpu start).fpu.queue = [] ∧ (effectiveAddress 0#5 (.imm 8#13) (fpu start)).toNat % 8 = 0) :=
  ⟨rfl, rfl, rfl, rfl, pairReady_single rfl _, pairReady_single rfl _, by decide +kernel, by decide +kernel, by decide +kernel⟩

theorem test_witness_FpopEffects :
    let s := floats [(4#5, 0x3F800000#32), (8#5, 0x3F800000#32)] start
    (fpopOf (.fadds 12#5 4#5 8#5) = some (.fadds, 12#5, 4#5, 8#5) ∧ FpopRuns .fadds 12#5 4#5 8#5 s ∧
      (fpResult .fadds 4#5 8#5 s).2 &&& s.fpu.fsr.tem = 0#5) ∧
    (FpopRuns .faddq 28#5 4#5 8#5 (quads []) ∧ (fpResult .faddq 4#5 8#5 (quads [])).2 &&& (quads []).fpu.fsr.tem = 0#5) := by
  decide +kernel

theorem test_witness_FpopHeldCases :
    (fpopOf (.faddq 12#5 4#5 8#5) = some (.faddq, 12#5, 4#5, 8#5) ∧ FpuReady (fpu start) ∧ FpOp.faddq.isQuad = true ∧
      (fpu start).cfg.quadFp = false) ∧
    (FpOp.faddd.isQuad = false ∧ FpOp.faddd.alignedOperands 1#5 2#5 4#5 = false ∧
      FpuReady (odd .illegalInstruction (fpu start)) ∧ (odd .illegalInstruction (fpu start)).cfg.oddRd = .illegalInstruction ∧
      FpuReady (odd .refuse (fpu start)) ∧ (odd .refuse (fpu start)).cfg.oddRd = .refuse) ∧
    (let s := floats [(4#5, 0x3F800000#32)] start
     let t := { s with fpu := { s.fpu with fsr := { s.fpu.fsr with tem := 0b00010#5 } } }
     FpopRuns .fdivs 12#5 4#5 8#5 t ∧ (fpResult .fdivs 4#5 8#5 t).2 &&& t.fpu.fsr.tem ≠ 0#5) ∧
    (let t := fpu start
     let u : State := { t with cfg := { t.cfg with fpuMayDecline := true } }
     FpopAccepted .fdivs 12#5 4#5 8#5 u ∧ u.cfg.fpuMayDecline = true) := by
  refine ⟨?_, ?_, ?_, ?_⟩ <;> decide +kernel

theorem test_witness_IntegerToDoubleExact : start.fpu.fsr.ns = false ∧ readF 4#5 start = 0#32 ∧
    readF 4#5 (floats [(4#5, 0x80000000#32)] start) ≠ 0#32 := by decide +kernel

/-- CoprocessorEffects. -/
def cpAccessReady (a : Word) (kind : AccessKind) (n : Nat) (s : State) : Bool :=
  ready a kind n (coprocessor s) && decide (CpReady (coprocessor s))

theorem test_witness_CoprocessorEffects :
    cpAccessReady 0xFFFFFFFC#32 .read 4 start = true ∧ cpAccessReady 0xFFFFFFF8#32 .read 8 start = true ∧
    cpAccessReady 0xFFFFFFFC#32 .write 4 (user start) = true ∧ cpAccessReady 0xFFFFFFF8#32 .write 8 start = true ∧
    cpopWord (.cpop2 31#5 0#5 0x1FF#9 31#5) = some 0xBFB83FFF#32 := by decide +kernel

/-- CoprocessorEffects for STDCQ: an entry in the coprocessor queue. -/
theorem test_witness_CoprocessorEffects_queue :
    let s := coprocessor start
    let t : State := { s with cp := { s.cp with queue := [{ addr := 4#32, instr := 5#32 }] } }
    CpReady t ∧ MemoryCanonical t ∧ t.psr.s = true ∧ t.cp.queue = { addr := 4#32, instr := 5#32 } :: [] ∧
      AccessPermitted .write 8 (modeDataSpace t) (effectiveAddress 0#5 (.imm 8#13) t) t := by decide +kernel

theorem test_witness_CoprocessorTraps :
    let i := Instr.stdcq 0#5 (.imm 8#13)
    let pending : State := { coprocessor start with cp := { start.cp with pending := true } }
    isCoprocessor i = true ∧ PairReady i start ∧ start.psr.s = true ∧ (Settled start ∧ start.cfg.hasCp = false) ∧
    (let t : State := { start with cfg := { start.cfg with hasCp := true } }
     Settled t ∧ t.psr.ec = false ∧ isCpLoad i = false) ∧
    (Settled (coprocessor start) ∧ (coprocessor start).psr.ec = true ∧
      cpAccessOf (.ldc 1#5 0#5 (.imm 2#13)) = some (.read, 4, 0#5, .imm 2#13) ∧
      (effectiveAddress 0#5 (.imm 2#13) (coprocessor start)).toNat % 4 ≠ 0) ∧
    (Settled pending ∧ pending.cfg.hasCp = true ∧ pending.psr.ec = true ∧ pending.cp.pending = true ∧
      cpAccessOf i = some (.write, 8, 0#5, .imm 8#13) ∧ (effectiveAddress 0#5 (.imm 8#13) pending).toNat % 8 = 0) ∧
    (let t : State := { start with cfg := { start.cfg with hasCp := true } }
     Settled t ∧ t.cfg.hasCp = true ∧ t.psr.ec = false ∧ isCpLoad (.ldc 1#5 0#5 (.imm 0#13)) = true) ∧
    (let t := unmapped (coprocessor start)
     Settled t ∧ t.cfg.hasCp = true ∧ t.psr.ec = true ∧ t.cp.pending = false ∧ t.psr.s = true ∧
       (effectiveAddress 0#5 (.imm 8#13) t).toNat % 8 = 0 ∧
       accessOk t.cfg .write 8 (modeDataSpace t) (effectiveAddress 0#5 (.imm 8#13) t) = false) :=
  ⟨rfl, pairReady_single rfl _, rfl, by decide, by decide, by decide, by decide, by decide, by decide⟩

theorem test_witness_UnimpFlushEffects :
    let flushing (m : FlushMode) (v : Word) : State := { start with iccr := v, cfg := { start.cfg with flushMode := m } }
    (Settled (flushing .icache 2#32) ∧ (flushing .icache 2#32).iccr.getLsbD start.cfg.iccrFtdBit.val = true) ∧
    (Settled (flushing .icache 0#32) ∧ (flushing .icache 0#32).iccr.getLsbD start.cfg.iccrFtdBit.val = false) ∧
    (Settled (flushing .trap 0#32) ∧ (flushing .trap 0#32).cfg.flushMode = .trap) ∧
    (Settled (flushing .nop 0#32) ∧ (flushing .nop 0#32).cfg.flushMode = .nop) := by decide

/-- InvariantKept: a state with a delayed write, memory and a held FPop. -/
theorem test_witness_InvariantKept :
    let s : State := { heldState .exceptionPending with delays := { noDelays with y := { count := 3, masked := true } } }
    Inv s ∧ s.mem ≠ [] ∧ completes (step s) = true :=
  ⟨⟨by decide +kernel, by decide +kernel, by decide +kernel, by decide +kernel, by decide +kernel⟩, by decide +kernel,
    by decide +kernel⟩

/-- UserModeConfined: the three disjuncts are met by an ADD, a Ticc with traps enabled and one with traps disabled. -/
theorem test_witness_UserModeConfined :
    Settled (user start) ∧ (user start).psr.s = false ∧ completes (exec (.add 1#5 0#5 (.imm 1#13)) (user start)) = true ∧
    completes (exec (.ta 0#5 (.imm 0#13)) (user start)) = true ∧
    completes (exec (.ta 0#5 (.imm 0#13)) (user (disabled start))) = true := by decide +kernel

theorem test_witness_WritersOnly :
    completes (exec (.save 14#5 14#5 (.imm (-96#13))) start) = true ∧ writesIcc (.save 14#5 14#5 (.imm (-96#13))) = false ∧
    completes (exec (.ldd 2#5 0#5 (.imm 0#13)) start) = true ∧ writesMemory (.ldd 2#5 0#5 (.imm 0#13)) = false := by
  decide +kernel

end Sys2Proof.Tests
end

/-! What an instruction may write and how it ends: an instruction that leads to a next state has trapped or has
completed, and a completion is described once, from the operations of its body. -/

namespace Sys2Proof.Proofs

open Sys2Proof.Machine Sys2Proof.Laws

/-! ### Alignment (R32, R85) -/

theorem aligned4_iff (a : Word) : aligned4 a = true ↔ a.toNat % 4 = 0 := by
  simp [aligned4, ← BitVec.toNat_inj, BitVec.extractLsb'_toNat]

theorem aligned8_iff (a : Word) : aligned8 a = true ↔ a.toNat % 8 = 0 := by
  simp [aligned8, ← BitVec.toNat_inj, BitVec.extractLsb'_toNat]

/-- The alignment check of a word or a doubleword access asks for a multiple of its size (R85). -/
theorem alignedTo_of_mod {n : Nat} (hn : n = 4 ∨ n = 8) {ea : Word} (h : ea.toNat % n = 0) :
    alignedTo n ea = true := by
  rcases hn with rfl | rfl
  · exact (aligned4_iff ea).mpr h
  · exact (aligned8_iff ea).mpr h

theorem aligned4_add {a b : Word} (ha : aligned4 a = true) (hb : aligned4 b = true) : aligned4 (a + b) = true := by
  rw [aligned4_iff] at *
  rw [BitVec.toNat_add]
  omega

/-- A word whose two low bits are appended zeros is a multiple of 4. -/
theorem aligned4_append_zero (x : BitVec 30) : aligned4 (x ++ 0#2) = true := by
  rw [aligned4_iff, BitVec.toNat_append]
  simp [Nat.shiftLeft_eq]

/-- A branch displacement is a multiple of 4 (R342). -/
theorem aligned4_disp22 (d : BitVec 22) : aligned4 ((d ++ 0#2).signExtend 32) = true := by
  simp only [aligned4, beq_iff_eq]
  apply BitVec.eq_of_getLsbD_eq
  intro k hk
  have hk24 : k < 22 + 2 := by omega
  simp only [BitVec.getLsbD_extractLsb', BitVec.getLsbD_signExtend, BitVec.getLsbD_append, Nat.zero_add, if_pos hk,
    if_pos hk24, BitVec.getLsbD_zero, Bool.and_false]

theorem aligned4_vectorAddress (tba : BitVec 20) (tt : BitVec 8) : aligned4 (vectorAddress tba tt) = true := by
  rw [aligned4_iff, vectorAddress, BitVec.toNat_append]
  simp [Nat.shiftLeft_eq]
  omega

theorem aligned4_branchTarget {s : State} (h : aligned4 s.pc = true) (d : BitVec 22) :
    aligned4 (branchTarget d s) = true := aligned4_add h (aligned4_disp22 d)

theorem aligned4_callTarget {s : State} (h : aligned4 s.pc = true) (d : BitVec 30) :
    aligned4 (callTarget d s) = true := aligned4_add h (aligned4_append_zero d)

theorem aligned4_add_four {a : Word} (h : aligned4 a = true) : aligned4 (a + 4#32) = true :=
  aligned4_add h (by decide)

/-! ### What the body of an instruction may write -/

/-- From `s`, before pc and npc move, the instruction `i` has led to `u`: of the PSR it wrote at most icc (a cc
instruction) and CWP, of the delayed-write windows it closed at most masks of the PSR and of Y, it wrote memory only if
it is a store or an atomic, and it kept every invariant of the machine. The relation is reflexive and transitive, so a
body is taken apart operation by operation. -/
structure Wrote (i : Instr) (s u : State) : Prop where
  npc : u.npc = s.npc
  psr : u.psr = { s.psr with icc := u.psr.icc, cwp := u.psr.cwp }
  icc : writesIcc i = false → u.psr.icc = s.psr.icc
  wim : u.wim = s.wim
  tbr : u.tbr = s.tbr
  iccr : u.iccr = s.iccr
  diag : u.diag = s.diag
  mode : u.mode = s.mode
  cfg : u.cfg = s.cfg
  fpu : FpuConsistent s → FpuConsistent u
  canonical : MemoryCanonical s → MemoryCanonical u
  mem : writesMemory i = false → u.mem = s.mem
  stale : writesMemory i = false → (∀ rs1 op2, i ≠ .flush rs1 op2) → u.stale = s.stale
  busLock : s.busLock = false → u.busLock = false
  delays : u.delays = { s.delays with psr := u.delays.psr, y := u.delays.y }
  psrCount : u.delays.psr.count = s.delays.psr.count
  psrDelay : writesPsrAtOnce i = false → u.delays.psr = s.delays.psr
  psrClosed : s.delays.psr = noDelays.psr → u.delays.psr = noDelays.psr
  yCount : u.delays.y.count = s.delays.y.count
  yDelay : writesYAtOnce i = false → u.delays.y = s.delays.y
  yClosed : s.delays.y = noDelays.y → u.delays.y = noDelays.y

section
variable {i : Instr} {s t u : State}

theorem Wrote.refl (i : Instr) (s : State) : Wrote i s s := by constructor <;> simp

theorem Wrote.trans (h : Wrote i s t) (k : Wrote i t u) : Wrote i s u where
  npc := k.npc.trans h.npc
  psr := by rw [k.psr, h.psr]
  icc hi := (k.icc hi).trans (h.icc hi)
  wim := k.wim.trans h.wim
  tbr := k.tbr.trans h.tbr
  iccr := k.iccr.trans h.iccr
  diag := k.diag.trans h.diag
  mode := k.mode.trans h.mode
  cfg := k.cfg.trans h.cfg
  fpu hs := k.fpu (h.fpu hs)
  canonical hs := k.canonical (h.canonical hs)
  mem hi := (k.mem hi).trans (h.mem hi)
  stale hi hf := (k.stale hi hf).trans (h.stale hi hf)
  busLock hs := k.busLock (h.busLock hs)
  delays := by rw [k.delays, h.delays]
  psrCount := k.psrCount.trans h.psrCount
  psrDelay hi := (k.psrDelay hi).trans (h.psrDelay hi)
  psrClosed hs := k.psrClosed (h.psrClosed hs)
  yCount := k.yCount.trans h.yCount
  yDelay hi := (k.yDelay hi).trans (h.yDelay hi)
  yClosed hs := k.yClosed (h.yClosed hs)

theorem wrote_writeReg (slot : Slot) (n : RegNum) (v : Word) : Wrote i s (writeReg slot n v s) := by
  constructor <;> simp [FpuConsistent, MemoryCanonical]

theorem wrote_writeRegIn (w : WindowNum) (n : RegNum) (v : Word) : Wrote i s (writeRegIn w n v s) := by
  constructor <;> simp [FpuConsistent, MemoryCanonical]

theorem wrote_writePair (rd : RegNum) (hi lo : Word) : Wrote i s (writePair rd hi lo s) :=
  (wrote_writeReg ..).trans (wrote_writeReg ..)

theorem wrote_setIcc (hicc : writesIcc i = true) (hpsr : writesPsrAtOnce i = true) (icc : Icc) :
    Wrote i s (setIcc icc s) := by
  constructor <;> simp +contextual [FpuConsistent, MemoryCanonical, hicc, hpsr, noDelays]

theorem wrote_setCwp (hpsr : writesPsrAtOnce i = true) (w : WindowNum) : Wrote i s (setCwp w s) := by
  constructor <;> simp +contextual [FpuConsistent, MemoryCanonical, hpsr, noDelays]

theorem wrote_setY (hy : writesYAtOnce i = true) (v : Word) : Wrote i s (setY v s) := by
  constructor <;> simp +contextual [FpuConsistent, MemoryCanonical, hy, noDelays]

theorem wrote_storeByte (hm : writesMemory i = true) (asi : Asi) (ea : Word) (v : Byte) :
    Wrote i s (storeByte asi ea v s) := by
  constructor <;> simp +contextual [FpuConsistent, MemoryCanonical, hm, canonical_storeByte]

theorem wrote_storeHalf (hm : writesMemory i = true) (asi : Asi) (ea : Word) (v : BitVec 16) :
    Wrote i s (storeHalf asi ea v s) := by
  constructor <;> simp +contextual [FpuConsistent, MemoryCanonical, hm, canonical_storeHalf]

theorem wrote_storeWord (hm : writesMemory i = true) (asi : Asi) (ea v : Word) :
    Wrote i s (storeWord asi ea v s) := by
  constructor <;> simp +contextual [FpuConsistent, MemoryCanonical, hm, canonical_storeWord]

theorem wrote_storeDouble (hm : writesMemory i = true) (asi : Asi) (ea hi lo : Word) :
    Wrote i s (storeDouble asi ea hi lo s) :=
  (wrote_storeWord hm ..).trans (wrote_storeWord hm ..)

/-- The bus is held and released within one body (R240). -/
theorem Wrote.atomic (h : Wrote i (atomicBegin s) u) : Wrote i s (atomicEnd u) :=
  { h with busLock := fun _ => rfl }

theorem wrote_flushDouble (ea : Word) (hf : ∃ rs1 op2, i = .flush rs1 op2) : Wrote i s (flushDouble ea s) := by
  constructor <;> simp [FpuConsistent, MemoryCanonical, hf]

/-! #### The units -/

/-- A write of the FPU that keeps its queue and its mode in agreement. -/
theorem wrote_fpu (fpu : Fpu) (hf : FpuConsistent s → FpuConsistent { s with fpu := fpu }) :
    Wrote i s { s with fpu := fpu } := { Wrote.refl i s with fpu := hf }

theorem wrote_writeF (n : RegNum) (v : Word) : Wrote i s (writeF n v s) := wrote_fpu _ id

/-- A write of the FSR. -/
theorem wrote_fsr (fsr : Fsr) : Wrote i s { s with fpu := { s.fpu with fsr := fsr } } := wrote_fpu _ id

theorem wrote_setCexc (v : BitVec 5) : Wrote i s (setCexc v s) := wrote_fsr _

/-- A write of the coprocessor. -/
theorem wrote_cp (cp : Coprocessor) : Wrote i s { s with cp := cp } := { Wrote.refl i s with }

/-- An FPop held as a deferred exception is the only entry of the queue (R58, R59, D13). -/
theorem wrote_queueFpop (hmode : s.fpu.mode = .execute) (ftt : BitVec 3) (word : Word) :
    Wrote i s (queueFpop ftt word s) := by
  refine wrote_fpu _ ?_
  rintro (⟨-, hq⟩ | ⟨hx, -⟩)
  · exact .inr ⟨by simp, by simp [hq]⟩
  · exact absurd hmode hx

/-- STDFQ removes the one entry and the FPU runs again (R211). -/
theorem wrote_advanceQueue : Wrote i s (advanceQueue s) := by
  unfold advanceQueue
  split
  next hmode =>
    refine wrote_fpu _ ?_
    rintro (⟨hx, -⟩ | ⟨-, hlen⟩)
    · simp [hmode] at hx
    · obtain ⟨e, he⟩ := List.length_eq_one_iff.mp hlen
      simp [FpuConsistent, he]
  next => exact .refl i s

theorem wrote_writeFp (k : FpKind) (n : RegNum) (bits : Nat) : Wrote i s (writeFp k n bits s) := by
  unfold writeFp
  cases k with
  | absent => exact .refl i s
  | single => exact wrote_writeF ..
  | double => exact (wrote_writeF ..).trans (wrote_writeF ..)
  | quad => exact (((wrote_writeF ..).trans (wrote_writeF ..)).trans (wrote_writeF ..)).trans (wrote_writeF ..)

theorem wrote_finishFpop (hmode : s.fpu.mode = .execute) (op : FpOp) (rd rs1 rs2 : RegNum) :
    Wrote i s (finishFpop op rd rs1 rs2 s) := by
  unfold finishFpop writeFpResult
  dsimp only
  split_ifs
  · exact (wrote_fsr _).trans (wrote_fsr _)
  · exact (wrote_fsr _).trans (wrote_writeFp ..)
  · exact (wrote_setCexc _).trans (wrote_queueFpop (by simpa using hmode) ..)

end

/-! ### The delayed-write windows (R570 to R575) -/

/-- A count falls by one, and a window whose count is 0 masks nothing. -/
theorem psrTick_spec (d : PsrDelay) : d.tick.count = d.count - 1 ∧ (d.tick.count = 0 → d.tick = noDelays.psr) := by
  unfold PsrDelay.tick
  split_ifs
  · exact ⟨show 0 = _ by omega, fun _ => rfl⟩
  · exact ⟨rfl, fun h : _ - 1 = 0 => by omega⟩

theorem wimTick_spec (d : WimDelay) : d.tick.count = d.count - 1 ∧ (d.tick.count = 0 → d.tick = noDelays.wim) := by
  unfold WimDelay.tick
  split_ifs
  · exact ⟨show 0 = _ by omega, fun _ => rfl⟩
  · exact ⟨rfl, fun h : _ - 1 = 0 => by omega⟩

theorem tbrTick_spec (d : TbrDelay) : d.tick.count = d.count - 1 ∧ (d.tick.count = 0 → d.tick = noDelays.tbr) := by
  unfold TbrDelay.tick
  split_ifs
  · exact ⟨show 0 = _ by omega, fun _ => rfl⟩
  · exact ⟨rfl, fun h : _ - 1 = 0 => by omega⟩

theorem regTick_spec (d : RegDelay) : d.tick.count = d.count - 1 ∧ (d.tick.count = 0 → d.tick = noDelays.y) := by
  unfold RegDelay.tick
  split_ifs
  · exact ⟨show 0 = _ by omega, fun _ => rfl⟩
  · exact ⟨rfl, fun h : _ - 1 = 0 => by omega⟩

theorem iccrTick_spec (d : IccrDelay) : d.tick.count = d.count - 1 ∧ (d.tick.count = 0 → d.tick = noDelays.iccr) := by
  unfold IccrDelay.tick
  split_ifs
  · exact ⟨show 0 = _ by omega, fun _ => rfl⟩
  · exact ⟨rfl, fun h : _ - 1 = 0 => by omega⟩

theorem countsFall_tick (d : Delays) : CountsFall d d.tick where
  psr := (psrTick_spec _).1
  wim := (wimTick_spec _).1
  tbr := (tbrTick_spec _).1
  y := (regTick_spec _).1
  diag := (regTick_spec _).1
  iccr := (iccrTick_spec _).1

theorem le_writeDelay_of_fall {a b : Nat} (ha : a ≤ writeDelay) (hb : b = a - 1) : b ≤ writeDelay := by omega

theorem eq_zero_of_three_falls {a b c d : Nat} (ha : a ≤ writeDelay) (hb : b = a - 1) (hc : c = b - 1)
    (hd : d = c - 1) : d = 0 := by
  unfold writeDelay at ha
  omega

/-- The end of an instruction keeps the windows within bounds. -/
theorem delaysBounded_tick {d : Delays} (h : DelaysBounded d) : DelaysBounded d.tick := by
  obtain ⟨bp, bw, bt, bY, bg, bi, -⟩ := h
  obtain ⟨cp, cw, ct, cy, cg, ci⟩ := countsFall_tick d
  exact ⟨le_writeDelay_of_fall bp cp, le_writeDelay_of_fall bw cw, le_writeDelay_of_fall bt ct,
    le_writeDelay_of_fall bY cy, le_writeDelay_of_fall bg cg, le_writeDelay_of_fall bi ci, (psrTick_spec _).2,
    (wimTick_spec _).2, (tbrTick_spec _).2, (regTick_spec _).2, (regTick_spec _).2, (iccrTick_spec _).2⟩

/-- Windows within bounds whose counts are all 0 are closed. -/
theorem eq_noDelays {d : Delays} (h : DelaysBounded d) (hp : d.psr.count = 0) (hw : d.wim.count = 0)
    (ht : d.tbr.count = 0) (hy : d.y.count = 0) (hg : d.diag.count = 0) (hi : d.iccr.count = 0) : d = noDelays := by
  obtain ⟨-, -, -, -, -, -, kp, kw, kt, ky, kg, ki⟩ := h
  obtain ⟨psr, wim, tbr, y, diag, iccr⟩ := d
  obtain rfl : psr = noDelays.psr := kp hp
  obtain rfl : wim = noDelays.wim := kw hw
  obtain rfl : tbr = noDelays.tbr := kt ht
  obtain rfl : y = noDelays.y := ky hy
  obtain rfl : diag = noDelays.diag := kg hg
  obtain rfl : iccr = noDelays.iccr := ki hi
  rfl

/-- Three falls close windows that were within bounds (R570). -/
theorem eq_noDelays_of_three_falls {a b c d : Delays} (ha : DelaysBounded a) (hd : DelaysBounded d)
    (hab : CountsFall a b) (hbc : CountsFall b c) (hcd : CountsFall c d) : d = noDelays := by
  obtain ⟨bp, bw, bt, bY, bg, bi, -⟩ := ha
  exact eq_noDelays hd (eq_zero_of_three_falls bp hab.psr hbc.psr hcd.psr)
    (eq_zero_of_three_falls bw hab.wim hbc.wim hcd.wim) (eq_zero_of_three_falls bt hab.tbr hbc.tbr hcd.tbr)
    (eq_zero_of_three_falls bY hab.y hbc.y hcd.y) (eq_zero_of_three_falls bg hab.diag hbc.diag hcd.diag)
    (eq_zero_of_three_falls bi hab.iccr hbc.iccr hcd.iccr)

theorem delaysBounded_noDelays : DelaysBounded noDelays := by decide

section
variable {i : Instr} {s t u : State}

theorem Wrote.delaysBounded (h : Wrote i s u) (hs : DelaysBounded s.delays) : DelaysBounded u.delays := by
  obtain ⟨bp, bw, bt, bY, bg, bi, kp, kw, kt, ky, kg, ki⟩ := hs
  rw [h.delays]
  exact ⟨h.psrCount ▸ bp, bw, bt, h.yCount ▸ bY, bg, bi, fun h0 => h.psrClosed (kp (h.psrCount ▸ h0)), kw, kt,
    fun h0 => h.yClosed (ky (h.yCount ▸ h0)), kg, ki⟩

/-- The windows after a body and the end of its instruction. -/
theorem Wrote.windowsCounted (h : Wrote i s u) : WindowsCounted i s.delays u.delays.tick where
  counts _ := by
    have hc := countsFall_tick u.delays
    rw [h.delays] at hc ⊢
    exact ⟨hc.psr.trans (by rw [← h.psrCount]), hc.wim, hc.tbr, hc.y.trans (by rw [← h.yCount]), hc.diag, hc.iccr⟩
  psr _ hp := congrArg PsrDelay.tick (h.psrDelay hp)
  wim _ := by rw [h.delays]; rfl
  tbr _ := by rw [h.delays]; rfl
  y _ _ hy := congrArg RegDelay.tick (h.yDelay hy)
  asr _ := by rw [h.delays]; exact ⟨rfl, rfl⟩

/-! ### How an instruction ends -/

/-- The instruction `i` completed, from `s` to `t`. -/
structure Completed (i : Instr) (s t : State) : Prop where
  pc : t.pc = s.npc
  npc : PcAligned s → aligned4 t.npc = true
  fpu : FpuConsistent s → FpuConsistent t
  canonical : MemoryCanonical s → MemoryCanonical t
  busLock : s.busLock = false → t.busLock = false
  bounded : DelaysBounded s.delays → DelaysBounded t.delays
  windows : WindowsCounted i s.delays t.delays
  icc : writesIcc i = false → t.psr.icc = s.psr.icc
  mem : writesMemory i = false → t.mem = s.mem
  stale : writesMemory i = false → (∀ rs1 op2, i ≠ .flush rs1 op2) → t.stale = s.stale
  confined : privileged s = false → Confined s t
  cfg : t.cfg = s.cfg

/-- A body, then the end of the instruction: pc is the old npc, npc as given (R31), the windows counted (R570). -/
theorem Wrote.completed (h : Wrote i s u) (target : Word) (annul : Bool)
    (ht : PcAligned s → aligned4 target = true) :
    Completed i s { u with pc := u.npc, npc := target, annul := annul, delays := u.delays.tick } where
  pc := h.npc
  npc := ht
  fpu := h.fpu
  canonical := h.canonical
  busLock := h.busLock
  bounded hs := delaysBounded_tick (h.delaysBounded hs)
  windows := h.windowsCounted
  icc := h.icc
  mem := h.mem
  stale := h.stale
  confined _ := ⟨h.psr, h.wim, h.tbr, h.iccr, h.diag, h.mode⟩
  cfg := h.cfg

theorem Wrote.advance (h : Wrote i s u) : Completed i s (advance u) :=
  h.completed _ _ fun hs => aligned4_add_four (h.npc ▸ hs.2)

theorem Wrote.transfer (h : Wrote i s u) {target : Word} (ht : PcAligned s → aligned4 target = true) :
    Completed i s (transfer target u) := h.completed _ _ ht

theorem completed_branch (taken a : Bool) (disp22 : BitVec 22) : Completed i s (branch taken a disp22 s) := by
  have hs := Wrote.refl i s
  unfold branch
  split_ifs
  · exact hs.transfer fun h => aligned4_branchTarget h.1 _
  · exact hs.completed _ _ fun h => aligned4_add_four h.2
  · exact hs.advance

theorem completed_branchAlways (a : Bool) (disp22 : BitVec 22) : Completed i s (branchAlways a disp22 s) := by
  have hs := Wrote.refl i s
  have ht : PcAligned s → aligned4 (branchTarget disp22 s) = true := fun h => aligned4_branchTarget h.1 _
  unfold branchAlways
  split_ifs
  · exact hs.completed _ _ ht
  · exact hs.transfer ht

/-- An instruction that writes special registers alone: what it does to the PSR, to the registers that user mode may not
write and to the windows remains to be said. -/
theorem completed_of_special
    (hsame : t.pc = s.npc ∧ t.npc = s.npc + 4#32 ∧ t.fpu = s.fpu ∧ t.mem = s.mem ∧ t.stale = s.stale ∧
      t.busLock = s.busLock ∧ t.cfg = s.cfg)
    (icc : writesIcc i = false → t.psr.icc = s.psr.icc) (confined : privileged s = false → Confined s t)
    (windows : WindowsCounted i s.delays t.delays) (bounded : DelaysBounded s.delays → DelaysBounded t.delays) :
    Completed i s t := by
  obtain ⟨hpc, hnpc, hfpu, hmem, hstale, hbus, hcfg⟩ := hsame
  refine { pc := hpc, npc := fun hs => ?_, fpu := ?_, canonical := ?_, busLock := ?_, bounded, windows, icc,
           mem := fun _ => hmem, stale := fun _ _ => hstale, confined, cfg := hcfg }
  · exact hnpc ▸ aligned4_add_four hs.2
  · unfold FpuConsistent; rw [hfpu]; exact id
  · unfold MemoryCanonical; rw [hmem]; exact id
  · rw [hbus]; exact id

/-- The delayed write of Y (R392, R573). -/
theorem completed_delayedWriteY (hi : (∃ rs1 op2, i = .wry rs1 op2) ∨ ∃ rd rs1 op2, i = .wrasr rd rs1 op2) (v : Word) :
    Completed i s (delayedWriteY v s) := by
  refine completed_of_special (by simp) (by simp) (fun _ => ?_) ?_ ?_
  · exact ⟨by simp, by simp, by simp, by simp, by simp, by simp⟩
  · rcases hi with ⟨rs1, op2, rfl⟩ | ⟨rd, rs1, op2, rfl⟩
    · exact ⟨nofun, fun _ _ => rfl, fun _ => rfl, fun _ => rfl, fun h => absurd rfl (h _ _), fun _ => ⟨rfl, rfl⟩⟩
    · exact ⟨nofun, fun _ _ => rfl, fun _ => rfl, fun _ => rfl, fun _ h => absurd rfl (h _ _ _),
        fun h => absurd rfl (h _ _ _)⟩
  · intro hs
    obtain ⟨bp, bw, bt, -, bg, bi, kp, kw, kt, -, kg, ki⟩ := delaysBounded_tick hs
    exact ⟨bp, bw, bt, le_refl _, bg, bi, kp, kw, kt, nofun, kg, ki⟩

theorem not_user (hp : privileged s = true) : privileged s = false → Confined s t := fun hu => by simp [hp] at hu

theorem completed_delayedWriteDiag (hp : privileged s = true) (rd rs1 : RegNum) (op2 : RegImm) (v : Word) :
    Completed (.wrasr rd rs1 op2) s (delayedWriteDiag v s) := by
  refine completed_of_special (by simp) (by simp) (not_user hp) ?_ ?_
  · exact ⟨nofun, fun _ _ => rfl, fun _ => rfl, fun _ => rfl, fun _ _ _ => rfl, fun h => absurd rfl (h _ _ _)⟩
  · intro hs
    obtain ⟨bp, bw, bt, bY, -, bi, kp, kw, kt, ky, -, ki⟩ := delaysBounded_tick hs
    exact ⟨bp, bw, bt, bY, le_refl _, bi, kp, kw, kt, ky, nofun, ki⟩

theorem completed_delayedWriteIccr (hp : privileged s = true) (rd rs1 : RegNum) (op2 : RegImm) (v : Word) :
    Completed (.wrasr rd rs1 op2) s (delayedWriteIccr v s) := by
  refine completed_of_special (by simp) (by simp) (not_user hp) ?_ ?_
  · exact ⟨nofun, fun _ _ => rfl, fun _ => rfl, fun _ => rfl, fun _ _ _ => rfl, fun h => absurd rfl (h _ _ _)⟩
  · intro hs
    obtain ⟨bp, bw, bt, bY, bg, -, kp, kw, kt, ky, kg, -⟩ := delaysBounded_tick hs
    exact ⟨bp, bw, bt, bY, bg, le_refl _, kp, kw, kt, ky, kg, nofun⟩

theorem completed_delayedWritePsr (hp : privileged s = true) (rs1 : RegNum) (op2 : RegImm) (p : Psr) :
    Completed (.wrpsr rs1 op2) s (delayedWritePsr p s) := by
  refine completed_of_special (by simp) nofun (not_user hp) ?_ ?_
  · exact ⟨nofun, fun h => absurd rfl (h _ _), fun _ => rfl, fun _ => rfl, fun _ _ _ => rfl, fun _ => ⟨rfl, rfl⟩⟩
  · intro hs
    obtain ⟨-, bw, bt, bY, bg, bi, -, kw, kt, ky, kg, ki⟩ := delaysBounded_tick hs
    exact ⟨le_refl _, bw, bt, bY, bg, bi, nofun, kw, kt, ky, kg, ki⟩

theorem completed_delayedWriteWim (hp : privileged s = true) (rs1 : RegNum) (op2 : RegImm) (v : BitVec 8) :
    Completed (.wrwim rs1 op2) s (delayedWriteWim v s) := by
  refine completed_of_special (by simp) (by simp) (not_user hp) ?_ ?_
  · exact ⟨nofun, fun _ _ => rfl, fun h => absurd rfl (h _ _), fun _ => rfl, fun _ _ _ => rfl, fun _ => ⟨rfl, rfl⟩⟩
  · intro hs
    obtain ⟨bp, -, bt, bY, bg, bi, kp, -, kt, ky, kg, ki⟩ := delaysBounded_tick hs
    exact ⟨bp, le_refl _, bt, bY, bg, bi, kp, nofun, kt, ky, kg, ki⟩

theorem completed_delayedWriteTba (hp : privileged s = true) (rs1 : RegNum) (op2 : RegImm) (v : BitVec 20) :
    Completed (.wrtbr rs1 op2) s (delayedWriteTba v s) := by
  refine completed_of_special (by simp) (by simp) (not_user hp) ?_ ?_
  · exact ⟨nofun, fun _ _ => rfl, fun _ => rfl, fun h => absurd rfl (h _ _), fun _ _ _ => rfl, fun _ => ⟨rfl, rfl⟩⟩
  · intro hs
    obtain ⟨bp, bw, -, bY, bg, bi, kp, kw, -, ky, kg, ki⟩ := delaysBounded_tick hs
    exact ⟨bp, bw, le_refl _, bY, bg, bi, kp, kw, nofun, ky, kg, ki⟩

/-- RETT that completes: supervisor mode, an aligned target, the PSR's own masks closed (R352, R575). -/
theorem completed_returnFromTrap (hp : privileged s = true) (w : WindowNum) {target : Word}
    (ht : aligned4 target = true) (rs1 : RegNum) (op2 : RegImm) :
    Completed (.rett rs1 op2) s (returnFromTrap w target s) where
  pc := rfl
  npc _ := ht
  fpu := id
  canonical := id
  busLock := id
  bounded hs := by
    obtain ⟨bp, bw, bt, bY, bg, bi, kp, kw, kt, ky, kg, ki⟩ := delaysBounded_tick hs
    refine ⟨bp, bw, bt, bY, bg, bi, fun h => ?_, kw, kt, ky, kg, ki⟩
    have hclosed : s.delays.psr.tick = noDelays.psr := kp h
    simp [hclosed, noDelays]
  windows := by
    obtain ⟨cp, cw, ct, cy, cg, ci⟩ := countsFall_tick s.delays
    exact ⟨fun _ => ⟨cp, cw, ct, cy, cg, ci⟩, fun _ => nofun, fun _ => rfl, fun _ => rfl, fun _ _ _ => rfl,
      fun _ => ⟨rfl, rfl⟩⟩
  icc _ := rfl
  mem _ := rfl
  stale _ _ := rfl
  confined := not_user hp
  cfg := rfl

/-- The instruction ended in a trap: the handler's first instruction with traps enabled, error mode with traps disabled
(also where RETT finds them so). Before it the FPU may have taken its pending exception or noted a sequence error and
the coprocessor may be in the state of its implementation (R59, R202). -/
inductive Trapped (s : State) : State → Prop
  | entered (T : TrapType) (fpu : Fpu) (cp : Coprocessor) (enabled : trapsEnabled s = true)
      (consistent : FpuConsistent s → FpuConsistent { s with fpu := fpu, cp := cp }) :
      Trapped s (trapEntry T { s with fpu := fpu, cp := cp })
  | halted (T : TrapType) (fpu : Fpu) (cp : Coprocessor)
      (disabled : trapsEnabled s = false ∨ trapsEnabledForRett s = false)
      (consistent : FpuConsistent s → FpuConsistent { s with fpu := fpu, cp := cp }) :
      Trapped s (enterErrorMode T { s with fpu := fpu, cp := cp })

/-- The two refusals of the model (R26 and R413 under ODD_RD = refuse, R417). -/
def Refusable (i : Instr) (s : State) (r : Refusal) : Prop :=
  (r = .oddRegister ∧ s.cfg.oddRd = .refuse ∧
    ((∃ rd, pairOf i = some rd ∧ oddNumber rd = true) ∨
      ∃ op rd rs1 rs2, fpopOf i = some (op, rd, rs1, rs2) ∧ op.alignedOperands rd rs1 rs2 = false)) ∨
  (r = .fpuDisabledWhileBusy ∧ s.psr.ef = true ∧ s.fpu.mode ≠ .execute ∧
    ∃ rs1 op2, i = .wrpsr rs1 op2 ∧ (operand1 rs1 s ^^^ operand2 op2 s).getLsbD 12 = false)

/-- What can come of the instruction `i` in the state `s`: a trap, its completion, or one of the two refusals. -/
def Answers (i : Instr) (s : State) : Outcome → Prop
  | .next t => Trapped s t ∨ Completed i s t
  | .fault _ => False
  | .refused r => Refusable i s r

/-! ### The shared operations answer -/

theorem Completed.answers (h : Completed i s t) : Answers i s (.next t) := .inr h

/-- A trap raised in `s` with the FPU and the coprocessor as given. -/
theorem answers_raise_units (T : TrapType) (fpu : Fpu) (cp : Coprocessor)
    (consistent : FpuConsistent s → FpuConsistent { s with fpu := fpu, cp := cp }) :
    Answers i s (raise T { s with fpu := fpu, cp := cp }) := by
  cases he : trapsEnabled s with
  | true =>
    have ht : takeTrap T { s with fpu := fpu, cp := cp } = trapEntry T { s with fpu := fpu, cp := cp } := if_pos he
    exact .inl (ht ▸ .entered T fpu cp he consistent)
  | false =>
    have ht : takeTrap T { s with fpu := fpu, cp := cp } = enterErrorMode T { s with fpu := fpu, cp := cp } :=
      if_neg (by exact he ▸ Bool.false_ne_true)
    exact .inl (ht ▸ .halted T fpu cp (.inl he) consistent)

theorem answers_raise (T : TrapType) : Answers i s (raise T s) := answers_raise_units T s.fpu s.cp id

theorem answers_raise_cpTrapped (T : TrapType) : Answers i s (raise T (cpTrapped s)) :=
  answers_raise_units T s.fpu _ id

theorem answers_raise_cpLoadTrapped (T : TrapType) (load : Bool) : Answers i s (raise T (cpLoadTrapped load s)) := by
  unfold cpLoadTrapped
  split_ifs
  · exact answers_raise_cpTrapped T
  · exact answers_raise T

variable {k : Outcome}

theorem answers_checkedAccess (kind : AccessKind) (n : Nat) (asi : Asi) (ea : Word) (hk : Answers i s k) :
    Answers i s (checkedAccess kind n asi ea s k) := by
  unfold checkedAccess
  split_ifs
  · exact hk
  · exact answers_raise _
  · exact answers_raise _

theorem answers_privilegedForm (illegal : Bool) (hk : Answers i s k) : Answers i s (privilegedForm illegal s k) := by
  unfold privilegedForm
  split_ifs
  · exact answers_raise _
  · exact hk
  · exact answers_raise _
  · exact answers_raise _
  · exact hk
  · exact answers_raise _

theorem answers_alternateImmediate : Answers i s (alternateImmediate s) := answers_privilegedForm _ (answers_raise _)

/-- The refusal of an odd rd (R26, D9). -/
theorem refusable_oddRd {rd : RegNum} (hi : pairOf i = some rd) (h : oddRdRefused rd s = true) :
    Refusable i s .oddRegister := by
  simp only [oddRdRefused, Bool.and_eq_true, decide_eq_true_eq] at h
  exact .inl ⟨rfl, h.2, .inl ⟨rd, hi, h.1⟩⟩

theorem answers_pairRegister {rd : RegNum} (hi : pairOf i = some rd) (hk : Answers i s k) :
    Answers i s (pairRegister rd s k) := by
  unfold pairRegister
  split_ifs with _ hr
  · exact answers_raise _
  · exact refusable_oddRd hi hr
  · exact hk

theorem answers_privilegedPair {rd : RegNum} (hi : pairOf i = some rd) (hk : Answers i s k) :
    Answers i s (privilegedPair rd s k) := by
  refine answers_privilegedForm _ ?_
  split_ifs with hr
  · exact refusable_oddRd hi hr
  · exact hk

/-- A pending FP exception is taken now (R59). -/
theorem answers_takePendingFpException (hm : s.fpu.mode = .exceptionPending) :
    Answers i s (takePendingFpException s) := by
  refine answers_raise_units _ _ s.cp ?_
  rintro (⟨hx, -⟩ | ⟨-, hlen⟩)
  · simp [hm] at hx
  · exact .inr ⟨by simp, hlen⟩

theorem answers_fpSequenceError : Answers i s (fpSequenceError s) := answers_raise_units _ _ s.cp id

theorem answers_fpuReady (sequenceError : Bool) (hk : sequenceError = false → Answers i s k) :
    Answers i s (fpuReady sequenceError s k) := by
  unfold fpuReady
  split_ifs with hm he
  · exact answers_takePendingFpException hm
  · exact answers_fpSequenceError
  · exact hk (by simpa using he)

/-- An FPop or an FBfcc runs in fp_execute mode alone (R411). -/
theorem answers_fpOperate (hk : s.fpu.mode = .execute → Answers i s k) : Answers i s (fpOperate s k) := by
  unfold fpOperate fpuReady
  split_ifs with _ hp hx
  · exact answers_takePendingFpException hp
  · exact answers_fpSequenceError
  · refine hk ?_
    cases hm : s.fpu.mode with
    | execute => rfl
    | exceptionPending => exact absurd hm hp
    | exception => simp [hm] at hx
  · exact answers_raise _

theorem answers_fpAccess (kind : AccessKind) (n : Nat) (sequenceError : Bool) (asi : Asi) (ea : Word)
    (hk : Answers i s k) : Answers i s (fpAccess kind n sequenceError asi ea s k) := by
  unfold fpAccess
  split_ifs
  · exact answers_fpuReady _ fun _ => hk
  · exact answers_fpuReady _ fun _ => answers_raise _
  · exact answers_raise _
  · exact answers_raise _

theorem answers_cpOperate (hk : Answers i s k) : Answers i s (cpOperate s k) := by
  unfold cpOperate
  split_ifs
  · exact answers_raise_cpTrapped _
  · exact hk
  · exact answers_raise _

theorem answers_cpAccess (load : Bool) (kind : AccessKind) (n : Nat) (asi : Asi) (ea : Word) (hk : Answers i s k) :
    Answers i s (cpAccess load kind n asi ea s k) := by
  unfold cpAccess
  split_ifs
  · exact answers_raise_cpTrapped _
  · exact hk
  · exact answers_raise_cpLoadTrapped ..
  · exact answers_raise_cpLoadTrapped ..
  · exact answers_raise_cpLoadTrapped ..

end
end Sys2Proof.Proofs

/-! The answer of every instruction: family by family, then one table over all of them. -/

namespace Sys2Proof.Proofs

open Sys2Proof.Machine Sys2Proof.Laws

/-! ### The families of instructions answer -/

section
variable {i : Instr} {s : State}

theorem answers_writeResult (rd : RegNum) (v : Word) : Answers i s (writeResult rd v s) :=
  (wrote_writeReg ..).advance.answers

theorem answers_writeResultCc (hicc : writesIcc i = true) (hpsr : writesPsrAtOnce i = true) (rd : RegNum) (v : Word)
    (icc : Icc) : Answers i s (writeResultCc rd v icc s) :=
  ((wrote_writeReg ..).trans (wrote_setIcc hicc hpsr _)).advance.answers

theorem answers_writeProduct (hy : writesYAtOnce i = true) (rd : RegNum) (p : BitVec 64) :
    Answers i s (writeProduct rd p s) :=
  ((wrote_writeReg ..).trans (wrote_setY hy _)).advance.answers

theorem answers_writeProductCc (hy : writesYAtOnce i = true) (hicc : writesIcc i = true)
    (hpsr : writesPsrAtOnce i = true) (rd : RegNum) (p : BitVec 64) : Answers i s (writeProductCc rd p s) :=
  (((wrote_writeReg ..).trans (wrote_setY hy _)).trans (wrote_setIcc hicc hpsr _)).advance.answers

theorem answers_mulscc (rd rs1 : RegNum) (op2 : RegImm) : Answers (.mulscc rd rs1 op2) s (execMulscc rd rs1 op2 s) :=
  (((wrote_writeReg ..).trans (wrote_setY rfl _)).trans (wrote_setIcc rfl rfl _)).advance.answers

theorem wrote_writeQuotient (hy : writesYAtOnce i = true) (rd : RegNum) (q : Word) :
    Wrote i s (writeQuotient rd q s) := (wrote_writeReg ..).trans (wrote_setY hy _)

theorem answers_udiv (rd rs1 : RegNum) (op2 : RegImm) : Answers (.udiv rd rs1 op2) s (execUdiv rd rs1 op2 s) := by
  unfold execUdiv
  dsimp only
  split_ifs
  · exact answers_raise _
  · exact (wrote_writeQuotient rfl ..).advance.answers

theorem answers_udivcc (rd rs1 : RegNum) (op2 : RegImm) :
    Answers (.udivcc rd rs1 op2) s (execUdivcc rd rs1 op2 s) := by
  unfold execUdivcc
  dsimp only
  split_ifs
  · exact answers_raise _
  · exact ((wrote_writeQuotient rfl ..).trans (wrote_setIcc rfl rfl _)).advance.answers

theorem answers_sdiv (rd rs1 : RegNum) (op2 : RegImm) : Answers (.sdiv rd rs1 op2) s (execSdiv rd rs1 op2 s) := by
  unfold execSdiv
  dsimp only
  split_ifs
  · exact answers_raise _
  · exact (wrote_writeQuotient rfl ..).advance.answers

theorem answers_sdivcc (rd rs1 : RegNum) (op2 : RegImm) :
    Answers (.sdivcc rd rs1 op2) s (execSdivcc rd rs1 op2 s) := by
  unfold execSdivcc
  dsimp only
  split_ifs
  · exact answers_raise _
  · exact ((wrote_writeQuotient rfl ..).trans (wrote_setIcc rfl rfl _)).advance.answers

theorem answers_taddcctv (rd rs1 : RegNum) (op2 : RegImm) :
    Answers (.taddcctv rd rs1 op2) s (execTaddcctv rd rs1 op2 s) := by
  unfold execTaddcctv
  dsimp only
  split_ifs
  · exact answers_raise _
  · exact answers_writeResultCc rfl rfl ..

theorem answers_tsubcctv (rd rs1 : RegNum) (op2 : RegImm) :
    Answers (.tsubcctv rd rs1 op2) s (execTsubcctv rd rs1 op2 s) := by
  unfold execTsubcctv
  dsimp only
  split_ifs
  · exact answers_raise _
  · exact answers_writeResultCc rfl rfl ..

/-! #### Control transfer -/

theorem answers_branchIcc (test : Icc → Bool) (a : Bool) (disp22 : BitVec 22) :
    Answers i s (branchIcc test a disp22 s) := (completed_branch ..).answers

theorem answers_branchFcc (e l g u a : Bool) (disp22 : BitVec 22) : Answers i s (branchFcc e l g u a disp22 s) :=
  answers_fpOperate fun _ => (completed_branch ..).answers

theorem answers_branchCcc (on0 on1 on2 on3 a : Bool) (disp22 : BitVec 22) :
    Answers i s (branchCcc on0 on1 on2 on3 a disp22 s) := answers_cpOperate (completed_branch ..).answers

theorem answers_call (disp30 : BitVec 30) : Answers (.call disp30) s (execCall disp30 s) :=
  ((wrote_writeReg ..).transfer fun h => aligned4_callTarget h.1 _).answers

theorem answers_jmpl (rd rs1 : RegNum) (op2 : RegImm) : Answers (.jmpl rd rs1 op2) s (execJmpl rd rs1 op2 s) := by
  unfold execJmpl
  dsimp only
  split_ifs with ht
  · exact ((wrote_writeReg ..).transfer fun _ => ht).answers
  · exact answers_raise _

theorem completed_moveWindow (hpsr : writesPsrAtOnce i = true) (w : WindowNum) (rd : RegNum) (sum : Word) :
    Completed i s (moveWindow w rd sum s) := ((wrote_setCwp hpsr w).trans (wrote_writeRegIn ..)).advance

theorem answers_save (rd rs1 : RegNum) (op2 : RegImm) : Answers (.save rd rs1 op2) s (execSave rd rs1 op2 s) := by
  unfold execSave
  dsimp only
  split_ifs
  · exact answers_raise _
  · exact (completed_moveWindow rfl ..).answers

theorem answers_restore (rd rs1 : RegNum) (op2 : RegImm) :
    Answers (.restore rd rs1 op2) s (execRestore rd rs1 op2 s) := by
  unfold execRestore
  dsimp only
  split_ifs
  · exact answers_raise _
  · exact (completed_moveWindow rfl ..).answers

/-- RETT goes to error mode of itself when it finds traps disabled (R352). -/
theorem answers_rettHalts (h : trapsEnabledForRett s = false) (T : TrapType) :
    Answers i s (.next (enterErrorMode T s)) := .inl (.halted T s.fpu s.cp (.inr h) id)

theorem answers_rett (rs1 : RegNum) (op2 : RegImm) : Answers (.rett rs1 op2) s (execRett rs1 op2 s) := by
  unfold execRett
  dsimp only
  split_ifs with het _ hp _ ht
  · exact answers_raise _
  · exact answers_raise _
  · exact answers_rettHalts (by simpa using het) _
  · exact answers_rettHalts (by simpa using het) _
  · exact answers_rettHalts (by simpa using het) _
  · exact (completed_returnFromTrap (by simpa using hp) _ (by simpa using ht) ..).answers

theorem answers_trapOn (test : Icc → Bool) (rs1 : RegNum) (op2 : RegImm) : Answers i s (trapOn test rs1 op2 s) := by
  unfold trapOn
  split_ifs
  · exact answers_raise _
  · exact (Wrote.refl i s).advance.answers

/-! #### The state registers -/

theorem answers_privilegedRead (rd : RegNum) (v : Word) : Answers i s (privilegedRead rd v s) := by
  unfold privilegedRead
  split_ifs
  · exact answers_writeResult ..
  · exact answers_raise _

theorem answers_rdasr (rd rs1 : RegNum) : Answers (.rdasr rd rs1) s (execRdasr rd rs1 s) := by
  unfold execRdasr
  cases asrKind s.cfg rs1 with
  | y => exact answers_writeResult ..
  | userUnimplemented => exact answers_raise _
  | privilegedUnimplemented => dsimp only; split_ifs <;> exact answers_raise _
  | diag => exact answers_privilegedRead ..
  | iccr => exact answers_privilegedRead ..

theorem answers_wry (rs1 : RegNum) (op2 : RegImm) : Answers (.wry rs1 op2) s (execWry rs1 op2 s) :=
  (completed_delayedWriteY (.inl ⟨_, _, rfl⟩) _).answers

theorem answers_wrasr (rd rs1 : RegNum) (op2 : RegImm) : Answers (.wrasr rd rs1 op2) s (execWrasr rd rs1 op2 s) := by
  unfold execWrasr
  cases asrKind s.cfg rd with
  | y => exact (completed_delayedWriteY (.inr ⟨_, _, _, rfl⟩) _).answers
  | userUnimplemented => exact answers_raise _
  | privilegedUnimplemented => dsimp only; split_ifs <;> exact answers_raise _
  | diag =>
    dsimp only
    split_ifs with hp
    · exact (completed_delayedWriteDiag hp ..).answers
    · exact answers_raise _
  | iccr =>
    dsimp only
    split_ifs with hp
    · exact (completed_delayedWriteIccr hp ..).answers
    · exact answers_raise _

theorem answers_wrpsr (rs1 : RegNum) (op2 : RegImm) : Answers (.wrpsr rs1 op2) s (execWrpsr rs1 op2 s) := by
  unfold execWrpsr
  dsimp only
  split_ifs with hp _ hb
  · exact answers_raise _
  · simp only [disablesBusyFpu, Bool.and_eq_true, Bool.not_eq_true', decide_eq_true_eq] at hb
    obtain ⟨⟨hef, hbit⟩, hmode⟩ := hb
    exact .inr ⟨rfl, hef, hmode, rs1, op2, rfl, hbit⟩
  · exact (completed_delayedWritePsr hp ..).answers
  · exact answers_raise _

theorem answers_wrwim (rs1 : RegNum) (op2 : RegImm) : Answers (.wrwim rs1 op2) s (execWrwim rs1 op2 s) := by
  unfold execWrwim
  split_ifs with hp
  · exact (completed_delayedWriteWim hp ..).answers
  · exact answers_raise _

theorem answers_wrtbr (rs1 : RegNum) (op2 : RegImm) : Answers (.wrtbr rs1 op2) s (execWrtbr rs1 op2 s) := by
  unfold execWrtbr
  split_ifs with hp
  · exact (completed_delayedWriteTba hp ..).answers
  · exact answers_raise _

/-! #### The FPops, the CPops and FLUSH -/

theorem answers_queueFpop (hmode : s.fpu.mode = .execute) (ftt : BitVec 3) (word : Word) :
    Answers i s (.next (advance (queueFpop ftt word s))) := (wrote_queueFpop hmode ..).advance.answers

theorem answers_fpop {op : FpOp} {rd rs1 rs2 : RegNum} (hi : fpopOf i = some (op, rd, rs1, rs2)) :
    Answers i s (fpop op rd rs1 rs2 s) := by
  refine answers_fpOperate fun hmode => ?_
  unfold issueFpop
  dsimp only
  split_ifs with _ hrefused
  · exact answers_queueFpop hmode ..
  · simp only [Bool.and_eq_true, Bool.not_eq_true', decide_eq_true_eq] at hrefused
    exact .inl ⟨rfl, hrefused.2, .inr ⟨op, rd, rs1, rs2, hi, hrefused.1⟩⟩
  · exact answers_queueFpop hmode ..
  · exact answers_queueFpop hmode ..
  · exact (wrote_finishFpop hmode ..).advance.answers

/-- An unimplemented FPop writes nothing that an instruction may not write. -/
theorem answers_unimplementedFpop (i : Instr) (w : Word) (s : State) : Answers i s (execUnimplementedFpop w s) :=
  answers_fpOperate fun hmode => answers_queueFpop hmode ..

theorem answers_flush (rs1 : RegNum) (op2 : RegImm) : Answers (.flush rs1 op2) s (execFlush rs1 op2 s) := by
  unfold execFlush
  cases s.cfg.flushMode with
  | icache =>
    dsimp only
    split_ifs
    · exact (wrote_flushDouble _ ⟨_, _, rfl⟩).advance.answers
    · exact answers_raise _
  | nop => exact (Wrote.refl _ s).advance.answers
  | trap => exact answers_raise _

/-! #### Loads, stores and atomics -/

theorem answers_loadTo (n : Nat) (asi : Asi) (ea : Word) (rd : RegNum) (v : Word) :
    Answers i s (loadTo n asi ea rd v s) := answers_checkedAccess _ _ _ _ (wrote_writeReg ..).advance.answers

theorem answers_loadPairTo (asi : Asi) (ea : Word) (rd : RegNum) : Answers i s (loadPairTo asi ea rd s) :=
  answers_checkedAccess _ _ _ _ (wrote_writePair ..).advance.answers

theorem answers_storeFrom {t : State} (ht : Wrote i s t) (n : Nat) (asi : Asi) (ea : Word) :
    Answers i s (storeFrom n asi ea t s) := answers_checkedAccess _ _ _ _ ht.advance.answers

theorem answers_loadStoreByte (hm : writesMemory i = true) (asi : Asi) (ea : Word) (rd : RegNum) :
    Answers i s (loadStoreByte asi ea rd s) :=
  answers_checkedAccess _ _ _ _ ((wrote_storeByte hm ..).atomic.trans (wrote_writeReg ..)).advance.answers

theorem answers_swapWord (hm : writesMemory i = true) (asi : Asi) (ea : Word) (rd : RegNum) :
    Answers i s (swapWord asi ea rd s) :=
  answers_checkedAccess _ _ _ _ ((wrote_storeWord hm ..).atomic.trans (wrote_writeReg ..)).advance.answers

theorem answers_stdfq (rs1 : RegNum) (op2 : RegImm) : Answers (.stdfq rs1 op2) s (execStdfq rs1 op2 s) := by
  unfold execStdfq
  dsimp only
  split_ifs
  · exact answers_fpAccess _ _ _ _ _ ((wrote_storeDouble rfl ..).trans wrote_advanceQueue).advance.answers
  · exact answers_raise _

theorem answers_lddc (rd rs1 : RegNum) (op2 : RegImm) : Answers (.lddc rd rs1 op2) s (execLddc rd rs1 op2 s) := by
  unfold execLddc
  dsimp only
  split_ifs with _ hr
  · exact answers_raise_cpLoadTrapped ..
  · exact refusable_oddRd rfl hr
  · exact answers_cpAccess _ _ _ _ _ ((wrote_cp _).trans (wrote_cp _)).advance.answers

theorem answers_stdcq (rs1 : RegNum) (op2 : RegImm) : Answers (.stdcq rs1 op2) s (execStdcq rs1 op2 s) := by
  unfold execStdcq
  dsimp only
  split_ifs
  · exact answers_cpAccess _ _ _ _ _ ((wrote_storeDouble rfl ..).trans (wrote_cp _)).advance.answers
  · exact answers_raise _

end

/-- Every instruction in every state traps, completes, or is refused in one of the two named cases. -/
theorem exec_answers (i : Instr) (s : State) : Answers i s (exec i s) := by
  cases i with
  | call _ =>
    exact answers_call _
  | unimp _ =>
    exact answers_raise _
  | sethi rd _ =>
    exact answers_writeResult ..
  | bn a d | be a d | ble a d | bl a d | bleu a d | bcs a d | bneg a d | bvs a d | bne a d | bg a d | bge a d
  | bgu a d | bcc a d | bpos a d | bvc a d =>
    exact answers_branchIcc ..
  | ba a d =>
    exact (completed_branchAlways ..).answers
  | fbn a d | fbne a d | fblg a d | fbul a d | fbl a d | fbug a d | fbg a d | fbu a d | fbe a d | fbue a d
  | fbge a d | fbuge a d | fble a d | fbule a d | fbo a d =>
    exact answers_branchFcc ..
  | fba a d =>
    exact answers_fpOperate fun _ => (completed_branchAlways ..).answers
  | cbn a d | cb123 a d | cb12 a d | cb13 a d | cb1 a d | cb23 a d | cb2 a d | cb3 a d | cb0 a d | cb03 a d
  | cb02 a d | cb023 a d | cb01 a d | cb013 a d | cb012 a d =>
    exact answers_branchCcc ..
  | cba a d =>
    exact answers_cpOperate (completed_branchAlways ..).answers
  | add rd rs1 op2 | and rd rs1 op2 | or rd rs1 op2 | xor rd rs1 op2 | sub rd rs1 op2 | andn rd rs1 op2
  | orn rd rs1 op2 | xnor rd rs1 op2 | addx rd rs1 op2 | subx rd rs1 op2 | sll rd rs1 op2 | srl rd rs1 op2
  | sra rd rs1 op2 =>
    exact answers_writeResult ..
  | addcc rd rs1 op2 | andcc rd rs1 op2 | orcc rd rs1 op2 | xorcc rd rs1 op2 | subcc rd rs1 op2
  | andncc rd rs1 op2 | orncc rd rs1 op2 | xnorcc rd rs1 op2 | addxcc rd rs1 op2 | subxcc rd rs1 op2
  | taddcc rd rs1 op2 | tsubcc rd rs1 op2 =>
    exact answers_writeResultCc rfl rfl ..
  | taddcctv rd rs1 op2 =>
    exact answers_taddcctv ..
  | tsubcctv rd rs1 op2 =>
    exact answers_tsubcctv ..
  | umul rd rs1 op2 | smul rd rs1 op2 =>
    exact answers_writeProduct rfl ..
  | umulcc rd rs1 op2 | smulcc rd rs1 op2 =>
    exact answers_writeProductCc rfl rfl rfl ..
  | mulscc rd rs1 op2 =>
    exact answers_mulscc ..
  | udiv rd rs1 op2 =>
    exact answers_udiv ..
  | udivcc rd rs1 op2 =>
    exact answers_udivcc ..
  | sdiv rd rs1 op2 =>
    exact answers_sdiv ..
  | sdivcc rd rs1 op2 =>
    exact answers_sdivcc ..
  | rdy rd =>
    exact answers_writeResult ..
  | rdasr rd rs1 =>
    exact answers_rdasr ..
  | rdpsr rd | rdwim rd | rdtbr rd =>
    exact answers_privilegedRead ..
  | wry rs1 op2 =>
    exact answers_wry ..
  | wrasr rd rs1 op2 =>
    exact answers_wrasr ..
  | wrpsr rs1 op2 =>
    exact answers_wrpsr ..
  | wrwim rs1 op2 =>
    exact answers_wrwim ..
  | wrtbr rs1 op2 =>
    exact answers_wrtbr ..
  | fmovs rd rs1 rs2 | fnegs rd rs1 rs2 | fabss rd rs1 rs2 | fsqrts rd rs1 rs2 | fsqrtd rd rs1 rs2
  | fsqrtq rd rs1 rs2 | fadds rd rs1 rs2 | faddd rd rs1 rs2 | faddq rd rs1 rs2 | fsubs rd rs1 rs2
  | fsubd rd rs1 rs2 | fsubq rd rs1 rs2 | fmuls rd rs1 rs2 | fmuld rd rs1 rs2 | fmulq rd rs1 rs2
  | fdivs rd rs1 rs2 | fdivd rd rs1 rs2 | fdivq rd rs1 rs2 | fsmuld rd rs1 rs2 | fdmulq rd rs1 rs2
  | fitos rd rs1 rs2 | fitod rd rs1 rs2 | fitoq rd rs1 rs2 | fstoi rd rs1 rs2 | fdtoi rd rs1 rs2
  | fqtoi rd rs1 rs2 | fstod rd rs1 rs2 | fstoq rd rs1 rs2 | fdtos rd rs1 rs2 | fdtoq rd rs1 rs2
  | fqtos rd rs1 rs2 | fqtod rd rs1 rs2 | fcmps rd rs1 rs2 | fcmpd rd rs1 rs2 | fcmpq rd rs1 rs2
  | fcmpes rd rs1 rs2 | fcmped rd rs1 rs2 | fcmpeq rd rs1 rs2 =>
    exact answers_fpop rfl
  | cpop1 rd rs1 opc rs2 | cpop2 rd rs1 opc rs2 =>
    exact answers_cpOperate (wrote_cp _).advance.answers
  | jmpl rd rs1 op2 =>
    exact answers_jmpl ..
  | rett rs1 op2 =>
    exact answers_rett ..
  | te rs1 op2 | tle rs1 op2 | tl rs1 op2 | tleu rs1 op2 | tcs rs1 op2 | tneg rs1 op2
  | tvs rs1 op2 | tne rs1 op2 | tg rs1 op2 | tge rs1 op2 | tgu rs1 op2 | tcc rs1 op2
  | tpos rs1 op2 | tvc rs1 op2 =>
    exact answers_trapOn ..
  | tn rs1 op2 =>
    exact answers_trapOn condNever rs1 op2
  | ta rs1 op2 =>
    exact answers_trapOn condAlways rs1 op2
  | flush rs1 op2 =>
    exact answers_flush ..
  | save rd rs1 op2 =>
    exact answers_save ..
  | restore rd rs1 op2 =>
    exact answers_restore ..
  | ld rd rs1 op2 | lduh rd rs1 op2 | ldsh rd rs1 op2 =>
    exact answers_loadTo ..
  | ldub rd rs1 op2 | ldsb rd rs1 op2 =>
    exact answers_loadTo 1 (dataSpace s) (effectiveAddress rs1 op2 s) rd _
  | ldd rd rs1 op2 =>
    exact answers_pairRegister rfl (answers_loadPairTo ..)
  | st rd rs1 op2 =>
    exact answers_storeFrom (wrote_storeWord rfl ..) ..
  | stb rd rs1 op2 =>
    exact answers_storeFrom (wrote_storeByte rfl ..) 1 (dataSpace s) (effectiveAddress rs1 op2 s)
  | sth rd rs1 op2 =>
    exact answers_storeFrom (wrote_storeHalf rfl ..) ..
  | std rd rs1 op2 =>
    exact answers_pairRegister rfl (answers_storeFrom (wrote_storeDouble rfl ..) ..)
  | ldstub rd rs1 op2 =>
    exact answers_loadStoreByte rfl ..
  | swap rd rs1 op2 =>
    exact answers_swapWord rfl ..
  | ldf rd rs1 op2 =>
    exact answers_fpAccess _ _ _ _ _ (wrote_writeF ..).advance.answers
  | lddf rd rs1 op2 =>
    exact answers_pairRegister rfl
      (answers_fpAccess _ _ _ _ _ ((wrote_writeF ..).trans (wrote_writeF ..)).advance.answers)
  | ldfsr rs1 op2 =>
    exact answers_fpAccess _ _ _ _ _ (wrote_fsr _).advance.answers
  | stf rd rs1 op2 =>
    exact answers_fpAccess _ _ _ _ _ (wrote_storeWord rfl ..).advance.answers
  | stdf rd rs1 op2 =>
    exact answers_pairRegister rfl (answers_fpAccess _ _ _ _ _ (wrote_storeDouble rfl ..).advance.answers)
  | stfsr rs1 op2 =>
    exact answers_fpAccess _ _ _ _ _ (wrote_storeWord rfl ..).advance.answers
  | stdfq rs1 op2 =>
    exact answers_stdfq ..
  | ldc rd rs1 op2 =>
    exact answers_cpAccess _ _ _ _ _ (wrote_cp _).advance.answers
  | ldcsr rs1 op2 =>
    exact answers_cpAccess _ _ _ _ _ (wrote_cp _).advance.answers
  | lddc rd rs1 op2 =>
    exact answers_lddc ..
  | stc rd rs1 op2 =>
    exact answers_cpAccess _ _ _ _ _ (wrote_storeWord rfl ..).advance.answers
  | stcsr rs1 op2 =>
    exact answers_cpAccess _ _ _ _ _ (wrote_storeWord rfl ..).advance.answers
  | stdc rd rs1 op2 =>
    exact answers_pairRegister rfl (answers_cpAccess _ _ _ _ _ (wrote_storeDouble rfl ..).advance.answers)
  | stdcq rs1 op2 =>
    exact answers_stdcq ..
  | lda rd rs1 addr | lduba rd rs1 addr | ldsba rd rs1 addr | lduha rd rs1 addr | ldsha rd rs1 addr =>
    cases addr with
    | imm _ => exact answers_alternateImmediate
    | reg rs2 asi => exact answers_privilegedForm _ (answers_loadTo ..)
  | ldda rd rs1 addr =>
    cases addr with
    | imm _ => exact answers_alternateImmediate
    | reg rs2 asi => exact answers_privilegedPair rfl (answers_loadPairTo ..)
  | sta rd rs1 addr =>
    cases addr with
    | imm _ => exact answers_alternateImmediate
    | reg rs2 asi => exact answers_privilegedForm _ (answers_storeFrom (wrote_storeWord rfl ..) ..)
  | stba rd rs1 addr =>
    cases addr with
    | imm _ => exact answers_alternateImmediate
    | reg rs2 asi => exact answers_privilegedForm _ (answers_storeFrom (wrote_storeByte rfl ..) ..)
  | stha rd rs1 addr =>
    cases addr with
    | imm _ => exact answers_alternateImmediate
    | reg rs2 asi => exact answers_privilegedForm _ (answers_storeFrom (wrote_storeHalf rfl ..) ..)
  | stda rd rs1 addr =>
    cases addr with
    | imm _ => exact answers_alternateImmediate
    | reg rs2 asi => exact answers_privilegedPair rfl (answers_storeFrom (wrote_storeDouble rfl ..) ..)
  | ldstuba rd rs1 addr =>
    cases addr with
    | imm _ => exact answers_alternateImmediate
    | reg rs2 asi => exact answers_privilegedForm _ (answers_loadStoreByte rfl ..)
  | swapa rd rs1 addr =>
    cases addr with
    | imm _ => exact answers_alternateImmediate
    | reg rs2 asi => exact answers_privilegedForm _ (answers_swapWord rfl ..)

end Sys2Proof.Proofs

/-! The statements about every instruction and every step, read off the answers. -/

namespace Sys2Proof.Proofs

open Sys2Proof.Machine Sys2Proof.Laws

/-! ### What an answer says of the next state -/

section
variable {i : Instr} {s t : State}

/-- An instruction that leads to a next state trapped or completed. -/
theorem exec_next (h : exec i s = .next t) : Trapped s t ∨ Completed i s t := by
  have ha := exec_answers i s
  rwa [h] at ha

theorem Trapped.trapEntered (h : Trapped s t) : TrapEntered s t := by
  cases h with
  | entered T fpu cp _ _ => exact ⟨T, .inl (by simp)⟩
  | halted T fpu cp _ _ => exact ⟨T, .inr (by simp)⟩

/-- A trap keeps icc, the memory, what a fetch may read, and the parameters. -/
theorem Trapped.keeps (h : Trapped s t) :
    t.psr.icc = s.psr.icc ∧ t.mem = s.mem ∧ t.stale = s.stale ∧ t.cfg = s.cfg := by
  cases h with
  | entered => simp
  | halted => simp

theorem inv_trapEntry (h : Inv s) (T : TrapType) : Inv (trapEntry T s) where
  pcAligned := by
    have hv := aligned4_vectorAddress (tbaForTrap s) (trapCode T)
    exact ⟨by simpa using hv, by simpa using aligned4_add_four hv⟩
  fpuConsistent := by simpa [FpuConsistent] using h.fpuConsistent
  memoryCanonical := by simpa [MemoryCanonical] using h.memoryCanonical
  busFree := by simpa [BusFree] using h.busFree
  delaysBounded := by simpa using delaysBounded_noDelays

theorem inv_enterErrorMode (h : Inv s) (T : TrapType) : Inv (enterErrorMode T s) :=
  ⟨h.pcAligned, h.fpuConsistent, h.memoryCanonical, h.busFree, h.delaysBounded⟩

theorem inv_units (h : Inv s) {fpu : Fpu} (cp : Coprocessor)
    (hf : FpuConsistent s → FpuConsistent { s with fpu := fpu, cp := cp }) : Inv { s with fpu := fpu, cp := cp } :=
  ⟨h.pcAligned, hf h.fpuConsistent, h.memoryCanonical, h.busFree, h.delaysBounded⟩

theorem Trapped.inv (ht : Trapped s t) (h : Inv s) : Inv t := by
  cases ht with
  | entered T fpu cp _ hf => exact inv_trapEntry (inv_units h cp hf) T
  | halted T fpu cp _ hf => exact inv_enterErrorMode (inv_units h cp hf) T

theorem Completed.inv (hc : Completed i s t) (h : Inv s) : Inv t where
  pcAligned := ⟨hc.pc ▸ h.pcAligned.2, hc.npc h.pcAligned⟩
  fpuConsistent := hc.fpu h.fpuConsistent
  memoryCanonical := hc.canonical h.memoryCanonical
  busFree := hc.busLock h.busFree
  delaysBounded := hc.bounded h.delaysBounded

/-! ### The step keeps the invariant -/

theorem inv_boundary (h : Inv s) : Inv (boundary s) where
  pcAligned := by simpa [PcAligned] using h.pcAligned
  fpuConsistent := by simpa [FpuConsistent] using h.fpuConsistent
  memoryCanonical := canonical_boundary h.memoryCanonical
  busFree := by simpa [BusFree] using h.busFree
  delaysBounded := by simpa using h.delaysBounded

theorem inv_resetTrap (h : Inv s) : Inv (resetTrap s) where
  pcAligned := ⟨show aligned4 0#32 = true by decide, show aligned4 4#32 = true by decide⟩
  fpuConsistent := .inl ⟨rfl, rfl⟩
  memoryCanonical := h.memoryCanonical
  busFree := h.busFree
  delaysBounded := delaysBounded_noDelays

theorem inv_skipAnnulled (h : Inv s) : Inv (skipAnnulled s) where
  pcAligned := ⟨h.pcAligned.2, aligned4_add_four h.pcAligned.2⟩
  fpuConsistent := h.fpuConsistent
  memoryCanonical := h.memoryCanonical
  busFree := h.busFree
  delaysBounded := delaysBounded_tick h.delaysBounded

theorem inv_of_answers {o : Outcome} (ha : Answers i s o) (h : Inv s) (ho : o = .next t) : Inv t := by
  subst ho
  rcases ha with ht | hc
  · exact ht.inv h
  · exact hc.inv h

/-- Whatever a word means, executing it keeps the invariant; an unassigned word and an unimplemented FPop answer as any
instruction may (R133, R412). -/
theorem answers_execWord (w : Word) (s : State) :
    ∃ i, Answers i s (execWord w s) ∧ (decode w = .instr i ∨ delayedWrite i = false) := by
  unfold execWord
  cases hw : decode w with
  | instr i => exact ⟨i, exec_answers i s, .inl rfl⟩
  | unassigned => exact ⟨.unimp 0#22, answers_raise _, .inr rfl⟩
  | unimplementedFpop => exact ⟨.unimp 0#22, answers_unimplementedFpop _ w s, .inr rfl⟩

theorem inv_fetchAndExecute (h : Inv s) (hs : fetchAndExecute s = .next t) : Inv t := by
  unfold fetchAndExecute at hs
  split at hs
  · exact inv_of_answers (i := .unimp 0#22) (answers_raise _) h hs
  · next w _ =>
    obtain ⟨i, ha, -⟩ := answers_execWord w s
    exact inv_of_answers ha h hs

theorem inv_stepFrom {more : Bool} (h : Inv s) (hs : stepFrom more s = .next t) : Inv t := by
  unfold stepFrom haltedStep at hs
  split_ifs at hs
  · cases hs; exact inv_resetTrap h
  · cases hs; exact h
  · cases hs; exact inv_trapEntry h _
  · cases hs; exact inv_skipAnnulled h
  · exact inv_fetchAndExecute h hs

end

/-- Settles O56: the boundary keeps the invariant, and so does each way a step can end. -/
theorem invariantKept : Obligations.InvariantKept := fun _ _ h hs => inv_stepFrom (inv_boundary h) hs

/-- Settles O59: by what a trap keeps and what a completion says. -/
theorem writersOnly : Obligations.WritersOnly := by
  intro i s t h
  rcases exec_next h with ht | hc
  · obtain ⟨hicc, hmem, hstale, -⟩ := ht.keeps
    exact ⟨fun _ => hicc, fun _ => hmem, fun _ _ => hstale⟩
  · exact ⟨hc.icc, hc.mem, hc.stale⟩

/-- Settles O60: the answer of every instruction, read case by case. -/
theorem executionAnswers : Obligations.ExecutionAnswers := by
  intro i s
  have ha := exec_answers i s
  cases he : exec i s with
  | next t =>
    refine .inl ⟨t, rfl, ?_⟩
    rcases exec_next he with ht | hc
    · exact ht.keeps.2.2.2
    · exact hc.cfg
  | fault r => rw [he] at ha; exact ha.elim
  | refused r =>
    rw [he] at ha
    rcases ha with ⟨rfl, h⟩ | ⟨rfl, h⟩
    · exact .inr (.inl ⟨rfl, h⟩)
    · exact .inr (.inr ⟨rfl, h⟩)

/-! ### User mode -/

section
variable {s : State}

theorem handlerEntered_of_trapEntry (hs : Settled s) (T : TrapType) (fpu : Fpu) (cp : Coprocessor) :
    HandlerEntered s (trapEntry T { s with fpu := fpu, cp := cp }) := by
  have htba : tbaForTrap { s with fpu := fpu, cp := cp } = s.tbr.tba := tbaForTrap_settled (s := s) hs
  exact ⟨by simp, by simp, by simp, by simp, by simp, by simp [htba], by simp, by simp, by simp, by simp⟩

end

/-- Settles O58: a completion is confined, a trap enters the handler or error mode by ET. -/
theorem userModeConfined : Obligations.UserModeConfined := by
  intro i s t hs hu h
  rcases exec_next h with ht | hc
  · refine .inr ?_
    cases ht with
    | entered T fpu cp he _ =>
      exact .inl ⟨trapsEnabled_settled hs ▸ he, handlerEntered_of_trapEntry hs T fpu cp⟩
    | halted T fpu cp hd _ =>
      rw [trapsEnabled_settled hs, trapsEnabledForRett_settled hs, or_self] at hd
      exact .inr ⟨hd, rfl, rfl, rfl, rfl, rfl, rfl⟩
  · exact .inl (hc.confined (privileged_settled hs ▸ hu))

/-! ### The delayed-write windows over a step -/

section
variable {s t : State}

/-- The fourth and fifth case of a step: no reset, no error mode and no interrupt (R13). -/
theorem step_of_run (hreset : (boundary s).inputs.resetReq = false) (hmode : (boundary s).mode = .run)
    (hint : interruptTaken (boundary s) = false) :
    step s = if (boundary s).annul then .next (skipAnnulled (boundary s)) else fetchAndExecute (boundary s) := by
  have hm : s.mode = .run := by simpa using hmode
  simp [step, stepFrom, hreset, hm, hint]

/-- A step that executes an instruction or passes an annulled slot lowers every count by one and keeps the windows
within bounds (R570). -/
theorem executes_windows (h : Executes s t) :
    CountsFall s.delays t.delays ∧ (DelaysBounded s.delays → DelaysBounded t.delays) := by
  obtain ⟨hstep, hreset, hmode, hint, hrest⟩ := h
  have hdelays : (boundary s).delays = s.delays := by simp
  rw [step_of_run hreset hmode hint] at hstep
  rw [← hdelays]
  by_cases hannul : (boundary s).annul = true
  · rw [if_pos hannul] at hstep
    cases hstep
    exact ⟨countsFall_tick _, delaysBounded_tick⟩
  · obtain ⟨⟨w, hw, hdecode⟩, hntrap⟩ := hrest.resolve_left hannul
    rw [if_neg hannul, fetchAndExecute, hw] at hstep
    obtain ⟨i, ha, hi⟩ := answers_execWord w (boundary s)
    rw [show execWord w (boundary s) = .next t from hstep] at ha
    rcases ha with ht | hc
    · exact absurd ht.trapEntered hntrap
    · exact ⟨hc.windows.counts (hi.elim (hdecode i) id), hc.bounded⟩

/-- Passing an annulled slot (R13 step 3) is such a step. -/
theorem executes_annulled (hreset : (boundary s).inputs.resetReq = false) (hmode : (boundary s).mode = .run)
    (hint : interruptTaken (boundary s) = false) (hannul : (boundary s).annul = true) :
    Executes s (skipAnnulled (boundary s)) :=
  ⟨by rw [step_of_run hreset hmode hint, if_pos hannul], hreset, hmode, hint, .inl hannul⟩

/-- Two falls from 3 leave 1. -/
theorem eq_one_of_two_falls {a b c : Nat} (hb : b = a - 1) (hc : c = b - 1) (ha : a = 3) : c = 1 := by omega

/-- Three ticks close every window within bounds. -/
theorem tick_three {d : Delays} (h : DelaysBounded d) : d.tick.tick.tick = noDelays :=
  eq_noDelays_of_three_falls h (delaysBounded_tick (delaysBounded_tick (delaysBounded_tick h))) (countsFall_tick _)
    (countsFall_tick _) (countsFall_tick _)

end

/-- Settles O43: the windows after an instruction that completes are part of what its answer says, and counting them
down is arithmetic. -/
theorem delayWindow : Obligations.DelayWindow := by
  refine ⟨fun i s t h => ?_, fun s t h => (executes_windows h).1, fun s hr hm hi ha => ?_,
    fun a b c d hb h1 h2 h3 => ?_, fun a b c h1 h2 => ?_, fun d hd => tick_three hd, fun _ _ _ => rfl, fun _ _ _ => rfl, fun _ _ _ => rfl,
    fun _ _ _ => rfl, fun _ _ _ => rfl, fun _ _ _ _ => rfl⟩
  · exact (exec_next h).imp (·.trapEntered) (·.windows)
  · exact ⟨_, executes_annulled hr hm hi ha, by simp⟩
  · obtain ⟨f1, k1⟩ := executes_windows h1
    obtain ⟨f2, k2⟩ := executes_windows h2
    obtain ⟨f3, k3⟩ := executes_windows h3
    exact eq_noDelays_of_three_falls hb (k3 (k2 (k1 hb))) f1 f2 f3
  · obtain ⟨f1, -⟩ := executes_windows h1
    obtain ⟨f2, -⟩ := executes_windows h2
    exact ⟨eq_one_of_two_falls f1.psr f2.psr, eq_one_of_two_falls f1.wim f2.wim, eq_one_of_two_falls f1.tbr f2.tbr,
      eq_one_of_two_falls f1.y f2.y, eq_one_of_two_falls f1.diag f2.diag, eq_one_of_two_falls f1.iccr f2.iccr⟩

end Sys2Proof.Proofs

/-! The r registers and their windows, the reads of the state registers, SAVE and RESTORE. -/

namespace Sys2Proof.Proofs

open Sys2Proof.Machine Sys2Proof.Laws

/-! ### The r registers and the windows (R21 to R23) -/

/-- Settles O11: by the two definitions of an access, in any window. -/
theorem registerZero : Obligations.RegisterZero := by
  intro s slot w v
  have hread : ∀ w', readRegIn w' 0#5 s = 0#32 := fun _ => if_pos rfl
  have hwrite : ∀ w', writeRegIn w' 0#5 v s = s := fun _ => if_pos rfl
  exact ⟨hread _, hwrite _, hread w, hwrite w⟩

theorem toNat_add_one (w : WindowNum) : (w + 1#3).toNat = (w.toNat + 1) % 8 := by
  simp [BitVec.toNat_add]

/-- One cell, in numbers: the ins of a window are the outs of the next (R23). -/
theorem cell_eq_iff {w v i j : Nat} (hw : w < 8) (hv : v < 8) (hi : i < 32) (hj : j < 32) :
    ((if i < 8 then i else 8 + (16 * w + (i - 8)) % 128) = (if j < 8 then j else 8 + (16 * v + (j - 8)) % 128)) ↔
      (i = j ∧ (i < 8 ∨ w = v)) ∨ (v = (w + 1) % 8 ∧ 24 ≤ i ∧ i = j + 16) ∨
        (w = (v + 1) % 8 ∧ 24 ≤ j ∧ j = i + 16) := by
  split_ifs <;> omega

/-- Settles O12: the cell numbers are compared as natural numbers. -/
theorem windowsOverlap : Obligations.WindowsOverlap := by
  intro w v i j
  have hcell := physIndex_val w i
  refine ⟨fun h => hcell.trans (if_pos h), fun h => hcell.trans (if_neg (by omega)), ?_⟩
  rw [Fin.ext_iff, physIndex_val, physIndex_val, cell_eq_iff w.isLt v.isLt i.isLt j.isLt]
  simp only [← BitVec.toNat_inj, toNat_add_one]

/-! ### Frames of an instruction that ends with a register write -/

section
variable {s : State}

theorem regWritten_writeReg (h : Settled s) (slot : Slot) (rd : RegNum) (v : Word) :
    RegWritten s.psr.cwp rd v s (writeReg slot rd v s) := by
  intro k
  rw [writeReg, accessWindow_settled h, get_writeRegIn]

/-- r[rd] receives a value, and nothing else changes but pc and npc. -/
theorem integerEffect_writeReg (h : Settled s) (rd : RegNum) (v : Word) :
    IntegerEffect rd v s.psr.icc s.y s (advance (writeReg .rd rd v s)) where
  regs k := by simpa using regWritten_writeReg h .rd rd v k
  psr := by simp
  y := by simp
  special := ⟨by simp, by simp, by simp, by simp, by simp, by simp, by simp, by simp, by simp⟩
  units := ⟨by simp, by simp⟩
  memory := ⟨fun _ _ => readByte_of_mem (by simp) _ _, by simp⟩
  advanced := ⟨by simp, by simp⟩
  settled := settled_tick h (by simp)

theorem writeResult_effect (h : Settled s) (rd : RegNum) (v : Word) :
    ∃ t, writeResult rd v s = .next t ∧ IntegerEffect rd v s.psr.icc s.y s t :=
  ⟨_, rfl, integerEffect_writeReg h rd v⟩

theorem privilegedRead_effect (h : Settled s) (hs : s.psr.s = true) (rd : RegNum) (v : Word) :
    ∃ t, privilegedRead rd v s = .next t ∧ IntegerEffect rd v s.psr.icc s.y s t := by
  have hp : privileged s = true := (privileged_settled h).trans hs
  rw [privilegedRead, if_pos hp]
  exact writeResult_effect h rd v

/-! ### The state registers read by an instruction (R380 to R385) -/

theorem psrInUse_settled (h : Settled s) : psrInUse s = psrWord s.cfg s.psr := by
  obtain ⟨hicc, hec, hef, hs, hps, hcwp, het, hpil, -⟩ := h
  simp [psrInUse, psrMask, withFreeBits, repeatBit, hicc, hec, hef, hs, hps, hcwp, het, hpil]

theorem wimInUse_settled (h : Settled s) : wimInUse s = s.wim.zeroExtend 32 := by
  obtain ⟨-, -, -, -, -, -, -, -, hwim, -⟩ := h
  simp [wimInUse, withFreeBits, hwim]

theorem tbrInUse_settled (h : Settled s) : tbrInUse s = vectorAddress s.tbr.tba s.tbr.tt := by
  obtain ⟨-, -, -, -, -, -, -, -, -, htba, -⟩ := h
  simp [tbrInUse, htba]

theorem diagInUse_settled (h : Settled s) : diagInUse s = s.diag := by
  obtain ⟨-, -, -, -, -, -, -, -, -, -, -, hdiag, -⟩ := h
  simp [diagInUse, hdiag]

theorem iccrInUse_settled (h : Settled s) : iccrInUse s = s.iccr := by
  obtain ⟨-, -, -, -, -, -, -, -, -, -, -, -, hiccr, -⟩ := h
  simp [iccrInUse, hiccr]

end

/-! ### The fields of a word put together -/

/-- The field that ends an append. -/
theorem extractLsb'_append_last {n m : Nat} (x : BitVec n) (y : BitVec m) : (x ++ y).extractLsb' 0 m = y :=
  (BitVec.extractLsb'_append_eq_of_add_le (Nat.zero_add m).le).trans BitVec.extractLsb'_eq_self

/-- A bit is a field of one bit. -/
theorem getLsbD_of_extractLsb' {n k : Nat} {x : BitVec n} {b : Bool} (h : x.extractLsb' k 1 = BitVec.ofBool b) :
    x.getLsbD k = b := by
  have h0 := congrArg (·.getLsbD 0) h
  simpa using h0

/-- A field of `n` bits above which stand `m` zeros, read as one field of `n + m` bits. -/
theorem toNat_extractLsb'_of_zeros {x : Word} {y : WindowNum} (hlow : x.extractLsb' 0 3 = y)
    (hhigh : x.extractLsb' 3 2 = 0#2) : (x.extractLsb' 0 5).toNat = y.toNat := by
  have hl := congrArg BitVec.toNat hlow
  have hh := congrArg BitVec.toNat hhigh
  simp only [BitVec.extractLsb'_toNat, Nat.shiftRight_eq_div_pow, BitVec.toNat_zero] at hl hh ⊢
  omega

/-- The fields of the PSR in the places of R40. -/
theorem psrWord_fields (cfg : Config) (p : Psr) :
    let v := psrWord cfg p
    v.extractLsb' 28 4 = cfg.psrImpl ∧ v.extractLsb' 24 4 = cfg.psrVer ∧ v.getLsbD 23 = p.icc.n ∧
      v.getLsbD 22 = p.icc.z ∧ v.getLsbD 21 = p.icc.v ∧ v.getLsbD 20 = p.icc.c ∧ v.extractLsb' 14 6 = 0#6 ∧
      v.getLsbD 13 = p.ec ∧ v.getLsbD 12 = p.ef ∧ v.extractLsb' 8 4 = p.pil ∧ v.getLsbD 7 = p.s ∧
      v.getLsbD 6 = p.ps ∧ v.getLsbD 5 = p.et ∧ (v.extractLsb' 0 5).toNat = p.cwp.toNat := by
  refine ⟨?_, ?_, getLsbD_of_extractLsb' ?_, getLsbD_of_extractLsb' ?_, getLsbD_of_extractLsb' ?_,
    getLsbD_of_extractLsb' ?_, ?_, getLsbD_of_extractLsb' ?_, getLsbD_of_extractLsb' ?_, ?_,
    getLsbD_of_extractLsb' ?_, getLsbD_of_extractLsb' ?_, getLsbD_of_extractLsb' ?_,
    toNat_extractLsb'_of_zeros ?_ ?_⟩
  all_goals
    unfold psrWord
    repeat refine (BitVec.extractLsb'_append_eq_of_le (by decide)).trans ?_
  case refine_1 => exact BitVec.extractLsb'_eq_self
  all_goals exact extractLsb'_append_last _ _

/-- The fields of the TBR in the places of R46. -/
theorem vectorAddress_fields (tba : BitVec 20) (tt : BitVec 8) :
    let v := vectorAddress tba tt
    v.extractLsb' 12 20 = tba ∧ v.extractLsb' 4 8 = tt ∧ v.extractLsb' 0 4 = 0#4 := by
  refine ⟨?_, ?_, ?_⟩
  all_goals
    unfold vectorAddress
    repeat refine (BitVec.extractLsb'_append_eq_of_le (by decide)).trans ?_
  case refine_1 => exact BitVec.extractLsb'_eq_self
  all_goals exact extractLsb'_append_last _ _

/-! ### The reads of the state registers -/

section
variable {s : State}

theorem rdasr_y_effect (h : Settled s) {n : RegNum} (hn : s.cfg.asrDecode = .ignore ∨ n.toNat < 16) (rd : RegNum) :
    ∃ t, exec (.rdasr rd n) s = .next t ∧ IntegerEffect rd s.y s.psr.icc s.y s t := by
  have hkind : asrKind s.cfg n = .y := by
    unfold asrKind
    rcases hn with hn | hn
    · rw [if_pos hn]
    · rw [if_pos hn, ite_self]
  have hexec : exec (.rdasr rd n) s = writeResult rd s.y s := by
    change execRdasr rd n s = _
    rw [execRdasr, hkind, ← yInUse_settled h]
  rw [hexec]
  exact writeResult_effect h rd s.y

/-- RDASR of DIAG and of ICCR (R381), where the table names them. -/
theorem rdasr_privileged_effect (h : Settled s) (hs : s.psr.s = true) (htable : s.cfg.asrDecode = .table)
    (hasr : s.cfg.hasHyperSparcAsr = true) (rd : RegNum) :
    (∃ t, exec (.rdasr rd 30#5) s = .next t ∧ IntegerEffect rd s.diag s.psr.icc s.y s t) ∧
    (∃ t, exec (.rdasr rd 31#5) s = .next t ∧ IntegerEffect rd s.iccr s.psr.icc s.y s t) := by
  have hdiag : asrKind s.cfg 30#5 = .diag := by simp [asrKind, htable, hasr]
  have hiccr : asrKind s.cfg 31#5 = .iccr := by simp [asrKind, htable, hasr]
  have e30 : exec (.rdasr rd 30#5) s = privilegedRead rd s.diag s := by
    change execRdasr rd 30#5 s = _
    rw [execRdasr, hdiag, ← diagInUse_settled h]
  have e31 : exec (.rdasr rd 31#5) s = privilegedRead rd s.iccr s := by
    change execRdasr rd 31#5 s = _
    rw [execRdasr, hiccr, ← iccrInUse_settled h]
  rw [e30, e31]
  exact ⟨privilegedRead_effect h hs rd _, privilegedRead_effect h hs rd _⟩

end

/-- Settles O40: each read is one register write of a word whose fields are known. -/
theorem stateRegisterReads : Obligations.StateRegisterReads := by
  intro s rd n h
  refine ⟨?_, fun hn => rdasr_y_effect h hn rd, fun hs ht ha => rdasr_privileged_effect h hs ht ha rd, fun hs => ?_,
    fun hs => ?_, fun hs => ?_⟩
  · have hexec : exec (.rdy rd) s = writeResult rd s.y s := by
      change execRdy rd s = _
      rw [execRdy, yInUse_settled h]
    rw [hexec]
    exact writeResult_effect h rd s.y
  · obtain ⟨t, ht, he⟩ := privilegedRead_effect h hs rd (psrInUse s)
    refine ⟨t, psrInUse s, ht, he, ?_⟩
    rw [psrInUse_settled h]
    exact psrWord_fields s.cfg s.psr
  · obtain ⟨t, ht, he⟩ := privilegedRead_effect h hs rd (wimInUse s)
    refine ⟨t, wimInUse s, ht, he, ?_⟩
    rw [wimInUse_settled h]
    exact BitVec.toNat_setWidth_of_le (by decide)
  · obtain ⟨t, ht, he⟩ := privilegedRead_effect h hs rd (tbrInUse s)
    refine ⟨t, tbrInUse s, ht, he, ?_⟩
    rw [tbrInUse_settled h]
    exact vectorAddress_fields s.tbr.tba s.tbr.tt

/-! ### SAVE and RESTORE (R350, R351) -/

theorem settled_setCwp {s : State} (h : Settled s) (w : WindowNum) : Settled (setCwp w s) := by
  obtain ⟨h1, h2, h3, h4, h5, -, hrest⟩ := h
  exact ⟨h1, h2, h3, h4, h5, rfl, hrest⟩

theorem windowMoved_moveWindow {s : State} (h : Settled s) (w : WindowNum) (rd : RegNum) (v : Word) :
    WindowMoved w rd v s (moveWindow w rd v s) where
  regs k := by simp [moveWindow, get_writeRegIn]
  psr := by simp
  y := by simp
  special := ⟨by simp, by simp, by simp, by simp, by simp, by simp, by simp, by simp, by simp⟩
  units := ⟨by simp, by simp⟩
  memory := ⟨fun _ _ => readByte_of_mem (by simp) _ _, by simp⟩
  advanced := ⟨by simp, by simp⟩
  settled := settled_tick (settled_setCwp h w) (by simp)

/-- Settles O32: the window in use is CWP, and its neighbour is valid. -/
theorem saveRestoreEffects : Obligations.SaveRestoreEffects := by
  intro s rd rs1 op2 h
  have hw := windowInUse_settled h
  constructor
  · intro hwim
    have hexec : exec (.save rd rs1 op2) s =
        .next (moveWindow (s.psr.cwp - 1#3) rd (effectiveAddress rs1 op2 s) s) := by
      change execSave rd rs1 op2 s = _
      have hvalid : windowInvalid (s.psr.cwp - 1#3) s = false := (windowInvalid_settled h _).trans hwim
      simp [execSave, hw, hvalid]
    exact ⟨_, hexec, windowMoved_moveWindow h _ rd _⟩
  · intro hwim
    have hexec : exec (.restore rd rs1 op2) s =
        .next (moveWindow (s.psr.cwp + 1#3) rd (effectiveAddress rs1 op2 s) s) := by
      change execRestore rd rs1 op2 s = _
      have hvalid : windowInvalid (s.psr.cwp + 1#3) s = false := (windowInvalid_settled h _).trans hwim
      simp [execRestore, hw, hvalid]
    exact ⟨_, hexec, windowMoved_moveWindow h _ rd _⟩

end Sys2Proof.Proofs

/-! The pending floating-point exception and the drain order (R59). -/

namespace Sys2Proof.Proofs

open Sys2Proof.Machine Sys2Proof.Laws

/-! ### A trap raised with no field being modified -/

theorem trapOutcome_takeTrap {s : State} (h : Settled s) (T : TrapType) : TrapOutcome T s (takeTrap T s) := by
  constructor
  · intro het
    rw [takeTrap, if_pos ((trapsEnabled_settled h).trans het)]
    exact trapEntry_taken T s
  · intro het
    have hd : trapsEnabled s = false := (trapsEnabled_settled h).trans het
    rw [takeTrap, if_neg (by simp [hd])]
    exact rfl

/-! ### The checks of a floating-point instruction (R201, R411) -/

section
variable {s : State}

theorem pairRegister_ready {rd : RegNum} (h : PairNumber rd s) (k : Outcome) : pairRegister rd s k = k := by
  unfold pairRegister oddRdIllegal oddRdRefused
  rcases h with h | h <;> simp [h]

theorem dataSpace_mode (h : Settled s) : dataSpace s = modeDataSpace s := dataSpace_settled h

/-- With the FPU enabled and the address aligned, what remains of R201 is the state of the FPU and the memory system. -/
theorem fpAccess_enabled (h : Settled s) (hfpu : s.cfg.hasFpu = true) (hef : s.psr.ef = true) {n : Nat}
    (hn : n = 4 ∨ n = 8) {ea : Word} (hea : ea.toNat % n = 0) (kind : AccessKind) (seq : Bool) (asi : Asi)
    (k : Outcome) :
    fpAccess kind n seq asi ea s k =
      fpuReady seq s (if accessOk s.cfg kind n asi ea then k else raise .dataAccessException s) := by
  have he : fpEnabled s = true := by rw [fpEnabled_settled h, hfpu, hef]; rfl
  rw [fpAccess, if_pos he, if_pos (alignedTo_of_mod hn hea)]

theorem fpOperate_enabled (h : Settled s) (hfpu : s.cfg.hasFpu = true) (hef : s.psr.ef = true) (k : Outcome) :
    fpOperate s k = fpuReady (drainingQueue s) s k := by
  have he : fpEnabled s = true := by rw [fpEnabled_settled h, hfpu, hef]; rfl
  rw [fpOperate, if_pos he, drainingQueue]

/-- The instructions that R59 does not let run in this state of the FPU: a load while the queue is drained, STDFQ of an
empty queue. -/
def accessSequenceError (i : Instr) (s : State) : Bool :=
  match i with
  | .ldf .. | .lddf .. | .ldfsr .. => drainingQueue s
  | .stdfq .. => !queueNotEmpty s
  | _ => false

theorem fpAccessOf_size {i : Instr} {kind : AccessKind} {n : Nat} {rs1 : RegNum} {op2 : RegImm}
    (hi : fpAccessOf i = some (kind, n, rs1, op2)) : n = 4 ∨ n = 8 := by
  unfold fpAccessOf at hi
  split at hi <;> cases hi <;> simp

/-- A floating-point load or store is its access check once its rd is a pair and its mode is right (R26, R201). -/
theorem exec_fpAccess {i : Instr} {kind : AccessKind} {n : Nat} {rs1 : RegNum} {op2 : RegImm}
    (hi : fpAccessOf i = some (kind, n, rs1, op2)) (hpair : PairReady i s)
    (hpriv : queueStore i = true → privileged s = true) :
    ∃ k, exec i s = fpAccess kind n (accessSequenceError i s) (dataSpace s) (effectiveAddress rs1 op2 s) s k := by
  cases i with
  | ldf | ldfsr | stf | stfsr => cases hi; exact ⟨_, rfl⟩
  | lddf rd | stdf rd => cases hi; exact ⟨_, pairRegister_ready (hpair rd rfl) _⟩
  | stdfq => cases hi; exact ⟨_, if_pos (hpriv rfl)⟩
  | _ => exact nomatch hi

/-- An FBfcc is the check of an operate instruction, and no store of the queue. -/
theorem exec_fccBranch {i : Instr} (hi : (fccBranch i).isSome = true) :
    (∃ k, exec i s = fpOperate s k) ∧ queueStore i = false := by
  cases i with
  | fbn | fbne | fblg | fbul | fbl | fbug | fbg | fbu | fba | fbe | fbue | fbge | fbuge | fble | fbule | fbo =>
    exact ⟨⟨_, rfl⟩, rfl⟩
  | _ => exact nomatch hi

/-- As exec_fccBranch, for an FPop. -/
theorem exec_fpopOf {i : Instr} (hi : (fpopOf i).isSome = true) :
    (∃ k, exec i s = fpOperate s k) ∧ queueStore i = false := by
  cases i with
  | fmovs | fnegs | fabss | fsqrts | fsqrtd | fsqrtq | fadds | faddd | faddq | fsubs | fsubd | fsubq | fmuls | fmuld
  | fmulq | fdivs | fdivd | fdivq | fsmuld | fdmulq | fitos | fitod | fitoq | fstoi | fdtoi | fqtoi | fstod | fstoq
  | fdtos | fdtoq | fqtos | fqtod | fcmps | fcmpd | fcmpq | fcmpes | fcmped | fcmpeq => exact ⟨⟨_, rfl⟩, rfl⟩
  | _ => exact nomatch hi

/-- What R59 forbids outside fp_exception_pending mode: in fp_exception mode anything but a store, and STDFQ on an empty
queue. -/
def OutOfSequence (i : Instr) (s : State) : Prop :=
  (s.fpu.mode = .exception ∧ (∀ n rs1 op2, fpAccessOf i ≠ some (.write, n, rs1, op2))) ∨
    (s.fpu.mode ≠ .exceptionPending ∧ queueStore i = true ∧ s.fpu.queue = [])

theorem OutOfSequence.not_pending {i : Instr} (h : OutOfSequence i s) : s.fpu.mode ≠ .exceptionPending := by
  rcases h with ⟨hm, -⟩ | ⟨hm, -⟩
  · simp [hm]
  · exact hm

theorem accessSequenceError_of_outOfSequence {i : Instr} (hi : (fpAccessOf i).isSome = true)
    (h : OutOfSequence i s) : accessSequenceError i s = true := by
  rcases h with ⟨hm, hload⟩ | ⟨-, hq, hempty⟩
  · cases i with
    | ldf | lddf | ldfsr => simp [accessSequenceError, drainingQueue, hm]
    | stf | stdf | stfsr | stdfq => exact absurd rfl (hload _ _ _)
    | _ => exact nomatch hi
  · cases i with
    | stdfq => simp [accessSequenceError, queueNotEmpty, hempty]
    | ldf | lddf | ldfsr | stf | stdf | stfsr => exact nomatch hq
    | _ => exact nomatch hi

/-- Every floating-point instruction with the FPU enabled comes to the test of the FPU's state, and that test knows the
instructions that are out of sequence (R201 step 4, R411). -/
theorem exec_floating {i : Instr} (h : Settled s) (hfpu : s.cfg.hasFpu = true) (hef : s.psr.ef = true)
    (hi : isFloating i = true) (hpriv : queueStore i = true → s.psr.s = true) (hpair : PairReady i s)
    (halign : ∀ kind n rs1 op2, fpAccessOf i = some (kind, n, rs1, op2) →
      (effectiveAddress rs1 op2 s).toNat % n = 0) :
    ∃ seq k, exec i s = fpuReady seq s k ∧ (OutOfSequence i s → seq = true) := by
  have hoperate (ho : (∃ k, exec i s = fpOperate s k) ∧ queueStore i = false) :
      ∃ seq k, exec i s = fpuReady seq s k ∧ (OutOfSequence i s → seq = true) := by
    obtain ⟨⟨k, hk⟩, hq⟩ := ho
    refine ⟨drainingQueue s, k, hk.trans (fpOperate_enabled h hfpu hef k), ?_⟩
    rintro (⟨hm, -⟩ | ⟨-, hq', -⟩)
    · simp [drainingQueue, hm]
    · simp [hq] at hq'
  rw [isFloating, Bool.or_eq_true, Bool.or_eq_true] at hi
  rcases hi with (ha | hb) | hp
  · obtain ⟨⟨kind, n, rs1, op2⟩, he⟩ := Option.isSome_iff_exists.mp ha
    obtain ⟨k, hk⟩ := exec_fpAccess he hpair fun hq => (privileged_settled h).trans (hpriv hq)
    rw [fpAccess_enabled h hfpu hef (fpAccessOf_size he) (halign _ _ _ _ he)] at hk
    exact ⟨_, _, hk, accessSequenceError_of_outOfSequence ha⟩
  · exact hoperate (exec_fccBranch hb)
  · exact hoperate (exec_fpopOf hp)

end

/-- Settles O48: the test of the FPU's state takes the pending exception, or finds the sequence error. -/
theorem fpExceptionTraps : Obligations.FpExceptionTraps := by
  intro s i h hfpu hef hi hpriv hpair halign
  obtain ⟨seq, k, hexec, hseq⟩ := exec_floating h hfpu hef hi hpriv hpair halign
  constructor
  · intro hm
    rw [fpuReady, if_pos hm] at hexec
    exact ⟨_, hexec, trapOutcome_takeTrap (s := setFpuMode .exception s) h _⟩
  · intro hout
    have hm : s.fpu.mode ≠ .exceptionPending := OutOfSequence.not_pending hout
    rw [fpuReady, if_neg hm, if_pos (hseq hout)] at hexec
    exact ⟨_, hexec, trapOutcome_takeTrap (s := setFtt 4#3 s) h _⟩

end Sys2Proof.Proofs

/-! Stores byte by byte, the words they make stale, and the floating-point stores. -/

namespace Sys2Proof.Proofs

open Sys2Proof.Machine Sys2Proof.Laws

/-! ### Addresses and words -/

theorem offset_add (ea : Word) (a b : Nat) :
    ea + BitVec.ofNat 32 a + BitVec.ofNat 32 b = ea + BitVec.ofNat 32 (a + b) := by
  rw [BitVec.add_assoc, ← BitVec.ofNat_add]

/-- Different offsets from an address are different bytes of its space. -/
theorem cellKey_offset_ne (asi : Asi) (ea : Word) {a b : Nat} (ha : a < 2 ^ 32) (hb : b < 2 ^ 32) (h : a ≠ b) :
    cellKey asi (ea + BitVec.ofNat 32 a) ≠ cellKey asi (ea + BitVec.ofNat 32 b) := by
  refine cellKey_add_ne asi ea fun e => h ?_
  have he := congrArg BitVec.toNat e
  rwa [BitVec.toNat_ofNat, BitVec.toNat_ofNat, Nat.mod_eq_of_lt ha, Nat.mod_eq_of_lt hb] at he

theorem wordBase_toNat (a : Word) : (wordBase a).toNat = a.toNat / 4 * 4 := by
  have hshift : wordBase a = (a >>> 2) <<< 2 := by
    have hmask : 0xFFFFFFFC#32 = BitVec.allOnes 32 <<< 2 := by decide
    rw [wordBase, hmask]
    apply BitVec.eq_of_getLsbD_eq
    intro k hk
    simp only [BitVec.getLsbD_and, BitVec.getLsbD_shiftLeft, BitVec.getLsbD_allOnes, BitVec.getLsbD_ushiftRight]
    by_cases h2 : k < 2
    · simp [h2]
    · simp [hk, h2, show 2 + (k - 2) = k by omega, show k - 2 < 32 by omega]
  have hlt := a.isLt
  rw [hshift, BitVec.toNat_shiftLeft, BitVec.toNat_ushiftRight, Nat.shiftLeft_eq, Nat.shiftRight_eq_div_pow]
  omega

/-- The word of an address that is a multiple of 4, and of the three bytes after it, is that address. -/
theorem wordBase_offset {a : Word} (ha : a.toNat % 4 = 0) {k : Nat} (hk : k < 4) :
    wordBase (a + BitVec.ofNat 32 k) = a := by
  have hlt := a.isLt
  apply BitVec.eq_of_toNat_eq
  rw [wordBase_toNat, BitVec.toNat_add, BitVec.toNat_ofNat]
  omega

theorem wordBase_of_aligned {a : Word} (ha : a.toNat % 4 = 0) : wordBase a = a := by
  simpa using wordBase_offset ha (k := 0) (by decide)

/-- The standard spaces are views of one array (R81, R82). -/
theorem cellKey_standard {asi : Asi} (h : standardSpace asi = true) (addr : Word) : cellKey asi addr = addr.toNat :=
  if_pos h

/-- An alternate space has no byte of the standard ones (R82). -/
theorem cellKey_ne_of_not_standard {asi : Asi} (h : standardSpace asi = false) (a b : Word) :
    cellKey 0x08#8 b ≠ cellKey asi a := by
  have hb : cellKey 0x08#8 b = b.toNat := cellKey_standard (by decide) b
  have ha : cellKey asi a = (asi.toNat + 1) * 2 ^ 32 + a.toNat := if_neg (by simp [h])
  have hlt := b.isLt
  rw [ha, hb]
  omega

theorem readByte_standard {asi : Asi} (h : standardSpace asi = true) (addr : Word) (s : State) :
    readByte asi addr s = readByte 0x08#8 addr s := by
  rw [readByte, readByte, cellKey_standard h, cellKey_standard (by decide)]

theorem readWord_standard {asi : Asi} (h : standardSpace asi = true) (addr : Word) (s : State) :
    readWord asi addr s = readWord 0x08#8 addr s := by
  simp only [readWord, readByte_standard h]

/-! ### The bytes that a store writes -/

section
variable {s t u : State} {asi : Asi} {ea : Word}

/-- The bytes of `asi` from `ea` on become `bytes`, but for those of a device, and no other byte changes. -/
structure BytesPut (asi : Asi) (ea : Word) (bytes : List Byte) (s t : State) : Prop where
  stored : ∀ k (h : k < bytes.length), readByte asi (ea + BitVec.ofNat 32 k) t =
    if isDevice s.cfg asi (ea + BitVec.ofNat 32 k) then readByte asi (ea + BitVec.ofNat 32 k) s else bytes[k]
  frame : ∀ asi' addr', (∀ k, k < bytes.length → cellKey asi' addr' ≠ cellKey asi (ea + BitVec.ofNat 32 k)) →
    readByte asi' addr' t = readByte asi' addr' s

theorem bytesPut_putByte (hm : MemoryCanonical s) (asi : Asi) (ea : Word) (b : Byte) :
    BytesPut asi ea [b] s (putByte asi ea b s) where
  stored k hk := by
    obtain rfl : k = 0 := Nat.lt_one_iff.mp hk
    simp only [BitVec.add_zero]
    cases hd : isDevice s.cfg asi ea with
    | true => simp [putByte, hd]
    | false => simpa using readByte_putByte_self hm b hd
  frame asi' addr' h := by
    have h0 := h 0 Nat.one_pos
    rw [BitVec.add_zero] at h0
    exact readByte_putByte_of_ne s b h0

/-- Bytes written from an address on, and more bytes written right after them. -/
theorem BytesPut.append {xs ys : List Byte} (hx : BytesPut asi ea xs s t) (hcfg : t.cfg = s.cfg)
    (hy : BytesPut asi (ea + BitVec.ofNat 32 xs.length) ys t u) (hlen : xs.length + ys.length ≤ 2 ^ 32) :
    BytesPut asi ea (xs ++ ys) s u where
  stored k hk := by
    rw [List.length_append] at hk
    by_cases hkx : k < xs.length
    · have hframe : readByte asi (ea + BitVec.ofNat 32 k) u = readByte asi (ea + BitVec.ofNat 32 k) t :=
        hy.frame _ _ fun j hj => by
          rw [offset_add]
          exact cellKey_offset_ne asi ea (by omega) (by omega) (by omega)
      rw [hframe, hx.stored k hkx, List.getElem_append_left hkx]
    · obtain ⟨j, rfl⟩ := Nat.exists_eq_add_of_le (Nat.le_of_not_lt hkx)
      have hj : j < ys.length := by omega
      have hframe : readByte asi (ea + BitVec.ofNat 32 (xs.length + j)) t =
          readByte asi (ea + BitVec.ofNat 32 (xs.length + j)) s :=
        hx.frame _ _ fun i hi => cellKey_offset_ne asi ea (by omega) (by omega) (by omega)
      have hstored := hy.stored j hj
      rw [offset_add, hcfg, hframe] at hstored
      rw [hstored, List.getElem_append_right (Nat.le_add_right ..)]
      simp
  frame asi' addr' h := by
    rw [List.length_append] at h
    have hsecond := hy.frame asi' addr' fun k hk => by
      rw [offset_add]
      exact h (xs.length + k) (by omega)
    exact hsecond.trans (hx.frame asi' addr' fun k hk => h k (by omega))

theorem BytesPut.of_mem {bytes : List Byte} (h : BytesPut asi ea bytes s t) (hu : u.mem = t.mem) :
    BytesPut asi ea bytes s u where
  stored k hk := (readByte_of_mem hu _ _).trans (h.stored k hk)
  frame asi' addr' ha := (readByte_of_mem hu _ _).trans (h.frame asi' addr' ha)

/-- The four bytes of a word, put one after the other. -/
theorem bytesPut_word (hm : MemoryCanonical s) (asi : Asi) (ea : Word) (b0 b1 b2 b3 : Byte) :
    BytesPut asi ea [b0, b1, b2, b3] s
      (putByte asi (ea + 3#32) b3 (putByte asi (ea + 2#32) b2 (putByte asi (ea + 1#32) b1 (putByte asi ea b0 s)))) := by
  have m0 := canonical_putByte hm asi ea b0
  have m1 := canonical_putByte m0 asi (ea + 1#32) b1
  have m2 := canonical_putByte m1 asi (ea + 2#32) b2
  have p1 := (bytesPut_putByte hm asi ea b0).append (by simp) (bytesPut_putByte m0 asi (ea + 1#32) b1) (by simp)
  have p2 := p1.append (by simp) (bytesPut_putByte m1 asi (ea + 2#32) b2) (by simp)
  exact p2.append (by simp) (bytesPut_putByte m2 asi (ea + 3#32) b3) (by simp)

/-! ### The words that a store makes stale (R98) -/

/-- A store within one word leaves every other word that can be fetched. -/
theorem BytesPut.readWord_of_ne {bytes : List Byte} (h : BytesPut asi ea bytes s t)
    (hin : ∀ k, k < bytes.length → wordBase (ea + BitVec.ofNat 32 k) = wordBase ea) {addr : Word}
    (ha : addr.toNat % 4 = 0) (hne : addr ≠ wordBase ea ∨ standardSpace asi = false) :
    readWord 0x08#8 addr t = readWord 0x08#8 addr s := by
  have hbyte : ∀ j, j < 4 → readByte 0x08#8 (addr + BitVec.ofNat 32 j) t =
      readByte 0x08#8 (addr + BitVec.ofNat 32 j) s := by
    intro j hj
    refine h.frame _ _ fun k hk hkey => ?_
    cases hstd : standardSpace asi with
    | false => exact cellKey_ne_of_not_standard hstd _ _ hkey
    | true =>
      rw [cellKey_standard (by decide), cellKey_standard hstd] at hkey
      have hword := congrArg wordBase (BitVec.eq_of_toNat_eq hkey)
      rw [wordBase_offset ha hj, hin k hk] at hword
      exact hne.elim (· hword) (by simp [hstd])
  have h0 := hbyte 0 (by decide)
  rw [BitVec.add_zero] at h0
  rw [readWord, readWord, h0, hbyte 1 (by decide), hbyte 2 (by decide), hbyte 3 (by decide)]

/-- The older values of a word after a store: the one entry that noteStale may add is for the word of its address. -/
theorem staleValues_noteStale (asi : Asi) (ea addr : Word) (s u : State) :
    staleValues addr (noteStale asi ea s u) =
      if standardSpace asi = true ∧ readWord asi (wordBase ea) u ≠ readWord asi (wordBase ea) s ∧ wordBase ea = addr
      then readWord asi (wordBase ea) s :: staleValues addr u else staleValues addr u := by
  unfold noteStale
  by_cases hadd : standardSpace asi = true ∧ readWord asi (wordBase ea) u ≠ readWord asi (wordBase ea) s
  · rw [if_pos (by simpa using hadd)]
    by_cases haddr : wordBase ea = addr
    · rw [if_pos ⟨hadd.1, hadd.2, haddr⟩]
      simp [staleValues, haddr]
    · rw [if_neg fun h => haddr h.2.2]
      simp [staleValues, haddr]
  · rw [if_neg (by simpa using hadd), if_neg fun h => hadd ⟨h.1, h.2.1⟩]

/-- A store within one word: its bytes, and that word's older value if the store changed it (R87, R98). -/
theorem bytesStored_noteStale {bytes : List Byte} (h : BytesPut asi ea bytes s u) (hstale : u.stale = s.stale)
    (hin : ∀ k, k < bytes.length → wordBase (ea + BitVec.ofNat 32 k) = wordBase ea) :
    BytesStored asi ea bytes s (noteStale asi ea s u) := by
  have hput : BytesPut asi ea bytes s (noteStale asi ea s u) := h.of_mem (mem_noteStale ..)
  refine ⟨hput.stored, hput.frame, fun addr ha => ?_⟩
  have hvalues : staleValues addr u = staleValues addr s := by rw [staleValues, staleValues, hstale]
  have hword : readWord 0x08#8 addr (noteStale asi ea s u) = readWord 0x08#8 addr u :=
    readWord_of_mem (mem_noteStale ..) _ _
  rw [staleValues_noteStale, hvalues, hword]
  by_cases hsame : standardSpace asi = true ∧ wordBase ea = addr
  · obtain ⟨hstd, rfl⟩ := hsame
    rw [readWord_standard hstd, readWord_standard hstd]
    by_cases hchanged : readWord 0x08#8 (wordBase ea) u = readWord 0x08#8 (wordBase ea) s <;> simp [hstd, hchanged]
  · have hne : addr ≠ wordBase ea ∨ standardSpace asi = false := by
      by_cases hstd : standardSpace asi = true
      · exact .inl fun e => hsame ⟨hstd, e.symm⟩
      · exact .inr (by simpa using hstd)
    rw [if_neg fun hc => hsame ⟨hc.1, hc.2.2⟩, if_pos (h.readWord_of_ne hin ha hne)]

/-- A word store (R87, R98). -/
theorem bytesStored_storeWord (hm : MemoryCanonical s) (asi : Asi) {ea : Word} (ha : ea.toNat % 4 = 0) (v : Word) :
    BytesStored asi ea (bytesOfWord v) s (storeWord asi ea v s) := by
  refine bytesStored_noteStale (bytesPut_word hm asi ea _ _ _ _) (by simp) fun k hk => ?_
  rw [wordBase_offset ha hk, wordBase_of_aligned ha]

theorem bytesPut_of_stored {bytes : List Byte} (h : BytesStored asi ea bytes s t) : BytesPut asi ea bytes s t :=
  ⟨h.stored, h.frame⟩

/-- Two stores into different words, one after the other (D23): each changes no word that the other does. -/
theorem bytesStored_append {xs ys : List Byte} (hx : BytesStored asi ea xs s t) (hcfg : t.cfg = s.cfg)
    (hy : BytesStored asi (ea + BitVec.ofNat 32 xs.length) ys t u) (hlen : xs.length + ys.length ≤ 2 ^ 32)
    (hwords : ∀ addr : Word, addr.toNat % 4 = 0 →
      readWord 0x08#8 addr t = readWord 0x08#8 addr s ∨ readWord 0x08#8 addr u = readWord 0x08#8 addr t) :
    BytesStored asi ea (xs ++ ys) s u := by
  have hput := (bytesPut_of_stored hx).append hcfg (bytesPut_of_stored hy) hlen
  refine ⟨hput.stored, hput.frame, fun addr ha => ?_⟩
  rw [hy.stale addr ha, hx.stale addr ha]
  rcases hwords addr ha with hw | hw
  · rw [hw, if_pos rfl]
  · rw [hw, if_pos rfl]

/-- A doubleword store is two word stores (R87, D23). -/
theorem bytesStored_storeDouble (hm : MemoryCanonical s) (asi : Asi) {ea : Word} (ha : ea.toNat % 8 = 0)
    (hi lo : Word) : BytesStored asi ea (bytesOfWord hi ++ bytesOfWord lo) s (storeDouble asi ea hi lo s) := by
  have ha4 : ea.toNat % 4 = 0 := by omega
  have hb4 : (ea + 4#32).toNat % 4 = 0 := by rw [BitVec.toNat_add]; simp; omega
  have hfirst := bytesStored_storeWord hm asi ha4 hi
  have hsecond := bytesStored_storeWord (canonical_storeWord hm asi ea hi) asi hb4 lo
  refine bytesStored_append hfirst (by simp) hsecond (by simp [bytesOfWord]) fun addr haddr => ?_
  by_cases he : addr = ea
  · refine .inr ((bytesPut_of_stored hsecond).readWord_of_ne (fun k hk => ?_) haddr (.inl ?_))
    · rw [wordBase_offset hb4 hk, wordBase_of_aligned hb4]
    · rw [he, wordBase_of_aligned hb4]
      simp
  · refine .inl ((bytesPut_of_stored hfirst).readWord_of_ne (fun k hk => ?_) haddr (.inl ?_))
    · rw [wordBase_offset ha4 hk, wordBase_of_aligned ha4]
    · rwa [wordBase_of_aligned ha4]

/-- What follows a store in its instruction leaves the memory as it is. -/
theorem bytesStored_of_same {bytes : List Byte} (h : BytesStored asi ea bytes s t) (hmem : u.mem = t.mem)
    (hstale : u.stale = t.stale) : BytesStored asi ea bytes s u where
  stored k hk := (readByte_of_mem hmem _ _).trans (h.stored k hk)
  frame asi' addr' ha := (readByte_of_mem hmem _ _).trans (h.frame asi' addr' ha)
  stale addr ha := by
    have hv : staleValues addr u = staleValues addr t := by rw [staleValues, staleValues, hstale]
    rw [hv, readWord_of_mem hmem, h.stale addr ha]

/-! ### A store instruction -/

/-- A body that writes memory or the units alone, then the end of its instruction. -/
theorem quietEffect_advance (h : Settled s)
    (hsame : u.regs = s.regs ∧ u.npc = s.npc ∧ u.annul = s.annul ∧ u.psr = s.psr ∧ u.wim = s.wim ∧ u.tbr = s.tbr ∧
      u.y = s.y ∧ u.iccr = s.iccr ∧ u.diag = s.diag ∧ u.delays = s.delays ∧ u.mode = s.mode ∧
      u.busLock = s.busLock ∧ u.inputs = s.inputs ∧ u.cfg = s.cfg) : QuietEffect s (advance u) := by
  obtain ⟨hregs, hnpc, hannul, hpsr, hwim, htbr, hy, hiccr, hdiag, hdelays, hmode, hbus, hinputs, hcfg⟩ := hsame
  exact
    { regs := hregs
      psr := hpsr
      y := hy
      special := ⟨hwim, htbr, hiccr, hdiag, hannul, hmode, hbus, hinputs, hcfg⟩
      advanced := ⟨hnpc, congrArg (· + 4#32) hnpc⟩
      settled := settled_tick h (congrArg Delays.tick hdelays) }

/-- A word store that completes: its bytes, and nothing else but pc and npc. -/
theorem stored_storeWord (h : Settled s) (hm : MemoryCanonical s) (asi : Asi) {ea : Word} (ha : ea.toNat % 4 = 0)
    (v : Word) : Stored asi ea (bytesOfWord v) s (advance (storeWord asi ea v s)) where
  quiet := quietEffect_advance h (by simp)
  units := ⟨by simp, by simp⟩
  memory := bytesStored_of_same (bytesStored_storeWord hm asi ha v) (by simp) (by simp)

theorem stored_storeDouble (h : Settled s) (hm : MemoryCanonical s) (asi : Asi) {ea : Word} (ha : ea.toNat % 8 = 0)
    (hi lo : Word) :
    Stored asi ea (bytesOfWord hi ++ bytesOfWord lo) s (advance (storeDouble asi ea hi lo s)) where
  quiet := quietEffect_advance h (by simp)
  units := ⟨by simp, by simp⟩
  memory := bytesStored_of_same (bytesStored_storeDouble hm asi ha hi lo) (by simp) (by simp)

/-! ### The floating-point stores (R208 to R211) -/

/-- A floating-point access that passes every check of R201. -/
theorem fpAccess_passes (h : Settled s) (hfpu : s.cfg.hasFpu = true) (hef : s.psr.ef = true)
    (hmode : s.fpu.mode ≠ .exceptionPending) {kind : AccessKind} {n : Nat} (hn : n = 4 ∨ n = 8)
    (hp : AccessPermitted kind n asi ea s) (k : Outcome) : fpAccess kind n false asi ea s k = k := by
  rw [fpAccess_enabled h hfpu hef hn hp.1, fpuReady, if_neg hmode, if_neg Bool.false_ne_true, if_pos hp.2]

end

/-- The fields of the FSR in the places of R56. -/
theorem fsrWord_fields (s : State) :
    let w := fsrWord s
    w.extractLsb' 30 2 = s.fpu.fsr.rd ∧ w.extractLsb' 28 2 = 0#2 ∧ w.extractLsb' 23 5 = s.fpu.fsr.tem ∧
      w.getLsbD 22 = s.fpu.fsr.ns ∧ w.extractLsb' 20 2 = 0#2 ∧ w.extractLsb' 17 3 = s.cfg.fsrVer ∧
      w.extractLsb' 14 3 = s.fpu.fsr.ftt ∧ w.getLsbD 13 = decide (s.fpu.queue ≠ []) ∧ w.getLsbD 12 = false ∧
      w.extractLsb' 10 2 = s.fpu.fsr.fcc ∧ w.extractLsb' 5 5 = s.fpu.fsr.aexc ∧ w.extractLsb' 0 5 = s.fpu.fsr.cexc := by
  have hqne : decide (s.fpu.queue ≠ []) = queueNotEmpty s := by
    cases hq : s.fpu.queue <;> simp [queueNotEmpty, hq]
  rw [hqne]
  refine ⟨?_, ?_, ?_, getLsbD_of_extractLsb' ?_, ?_, ?_, ?_, getLsbD_of_extractLsb' ?_, getLsbD_of_extractLsb' ?_, ?_,
    ?_, ?_⟩
  all_goals
    unfold fsrWord
    repeat refine (BitVec.extractLsb'_append_eq_of_le (by decide)).trans ?_
  case refine_1 => exact BitVec.extractLsb'_eq_self
  all_goals exact extractLsb'_append_last _ _

/-- What STDFQ leaves of the FPU, its queue being `e :: rest` (R211). -/
theorem fpu_advanceQueue {s : State} {e : QueueEntry} {rest : List QueueEntry} (hq : s.fpu.queue = e :: rest) :
    (advanceQueue s).fpu = if s.fpu.mode = .exception then
        { s.fpu with queue := rest, mode := if rest = [] then .execute else .exception }
      else s.fpu := by
  by_cases hm : s.fpu.mode = .exception
  · simp [advanceQueue, hm, hq, List.isEmpty_iff]
  · simp [advanceQueue, hm]

/-- Settles O46: the checks pass, and each store is one or two word stores. -/
theorem fpStoreEffects : Obligations.FpStoreEffects := by
  intro s rd rs1 op2 h hm hfpu hef hmode ea asi
  have hasi : dataSpace s = asi := dataSpace_mode h
  refine ⟨fun hp => ?_, fun hp hpair => ?_, fun hp => ?_, fun hp hs e rest hq => ?_⟩
  · have hexec : exec (.stf rd rs1 op2) s = .next (advance (storeWord asi ea (readF rd s) s)) := by
      change execStf rd rs1 op2 s = _
      rw [execStf, hasi]
      exact fpAccess_passes h hfpu hef hmode (.inl rfl) hp _
    exact ⟨_, hexec, stored_storeWord h hm asi hp.1 _⟩
  · have hexec : exec (.stdf rd rs1 op2) s =
        .next (advance (storeDouble asi ea (readF (pairEven rd) s) (readF (pairOdd rd) s) s)) := by
      change execStdf rd rs1 op2 s = _
      rw [execStdf, hasi, pairRegister_ready hpair]
      exact fpAccess_passes h hfpu hef hmode (.inr rfl) hp _
    exact ⟨_, hexec, stored_storeDouble h hm asi hp.1 _ _⟩
  · have hexec : exec (.stfsr rs1 op2) s = .next (advance (storeWord asi ea (fsrWord s) s)) := by
      change execStfsr rs1 op2 s = _
      rw [execStfsr, hasi]
      exact fpAccess_passes h hfpu hef hmode (.inl rfl) hp _
    exact ⟨_, fsrWord s, hexec, stored_storeWord h hm asi hp.1 _, fsrWord_fields s⟩
  · have hpriv : privileged s = true := (privileged_settled h).trans hs
    have hexec : exec (.stdfq rs1 op2) s =
        .next (advance (advanceQueue (storeDouble asi ea e.addr e.instr s))) := by
      change execStdfq rs1 op2 s = _
      rw [execStdfq, hasi, if_pos hpriv]
      have hpass := fpAccess_passes h hfpu hef hmode (.inr rfl) hp
        (.next (advance (advanceQueue (storeDouble asi ea e.addr e.instr s))))
      simpa [queueNotEmpty, frontEntry, hq] using hpass
    have hqueue : (storeDouble asi ea e.addr e.instr s).fpu.queue = e :: rest := by simpa using hq
    have hfpu' := fpu_advanceQueue hqueue
    exact ⟨_, hexec, quietEffect_advance h (by simp),
      bytesStored_of_same (bytesStored_storeDouble hm asi hp.1 _ _) (by simp) (by simp), by simp, by simpa using hfpu'⟩

end Sys2Proof.Proofs

/-! The checks of a memory access, said once for every size, and the accesses that trap. -/

namespace Sys2Proof.Proofs

open Sys2Proof.Machine Sys2Proof.Laws

/-! ### The checks of an access (R85, R161) -/

theorem aligned2_iff (a : Word) : aligned2 a = true ↔ a.toNat % 2 = 0 := by
  simp [aligned2, ← BitVec.toNat_inj, BitVec.extractLsb'_toNat]

/-- The sizes of the accesses of R85, in bytes. -/
abbrev AccessSize (n : Nat) : Prop := n = 1 ∨ n = 2 ∨ n = 4 ∨ n = 8

theorem alignedTo_iff {n : Nat} (hn : AccessSize n) (ea : Word) : alignedTo n ea = true ↔ ea.toNat % n = 0 := by
  rcases hn with rfl | rfl | rfl | rfl
  · simp [alignedTo, Nat.mod_one]
  · exact aligned2_iff ea
  · exact aligned4_iff ea
  · exact aligned8_iff ea

section
variable {s : State} {kind : AccessKind} {n : Nat} {asi : Asi} {ea : Word}

theorem checkedAccess_passes (hn : AccessSize n) (hp : AccessPermitted kind n asi ea s) (k : Outcome) :
    checkedAccess kind n asi ea s k = k := by
  rw [checkedAccess, if_pos ((alignedTo_iff hn ea).mpr hp.1), if_pos hp.2]

theorem checkedAccess_misaligned (hn : AccessSize n) (ha : ea.toNat % n ≠ 0) (k : Outcome) :
    checkedAccess kind n asi ea s k = raise .memoryAddressNotAligned s :=
  if_neg fun h => ha ((alignedTo_iff hn ea).mp h)

theorem checkedAccess_refused (hn : AccessSize n) (ha : ea.toNat % n = 0)
    (hr : accessOk s.cfg kind n asi ea = false) (k : Outcome) :
    checkedAccess kind n asi ea s k = raise .dataAccessException s := by
  rw [checkedAccess, if_pos ((alignedTo_iff hn ea).mpr ha), if_neg (by simp [hr])]

theorem fpAccess_misaligned (h : Settled s) (hfpu : s.cfg.hasFpu = true) (hef : s.psr.ef = true) (hn : AccessSize n)
    (ha : ea.toNat % n ≠ 0) (seq : Bool) (k : Outcome) :
    fpAccess kind n seq asi ea s k = raise .memoryAddressNotAligned s := by
  have he : fpEnabled s = true := by rw [fpEnabled_settled h, hfpu, hef]; rfl
  rw [fpAccess, if_pos he, if_neg fun hal => ha ((alignedTo_iff hn ea).mp hal)]

theorem fpAccess_refused (h : Settled s) (hfpu : s.cfg.hasFpu = true) (hef : s.psr.ef = true)
    (hmode : s.fpu.mode ≠ .exceptionPending) (hn : n = 4 ∨ n = 8) (ha : ea.toNat % n = 0)
    (hr : accessOk s.cfg kind n asi ea = false) (k : Outcome) :
    fpAccess kind n false asi ea s k = raise .dataAccessException s := by
  rw [fpAccess_enabled h hfpu hef hn ha, fpuReady, if_neg hmode, if_neg Bool.false_ne_true, if_neg (by simp [hr])]

/-! ### The instructions that are their access check -/

/-- ODD_RD does not stop a doubleword instruction that names a pair (R26). -/
theorem oddRd_of_pairNumber {rd : RegNum} (h : PairNumber rd s) :
    oddRdIllegal rd s = false ∧ oddRdRefused rd s = false := by
  unfold oddRdIllegal oddRdRefused
  rcases h with h | h <;> simp [h]

theorem privilegedPair_ready {rd : RegNum} (hp : privileged s = true) (h : PairNumber rd s) (k : Outcome) :
    privilegedPair rd s k = k := by
  obtain ⟨hill, href⟩ := oddRd_of_pairNumber h
  rw [privilegedPair, hill, href, privilegedForm_supervisor hp, if_neg Bool.false_ne_true]

variable {i : Instr} {rs1 : RegNum}

/-- An ordinary load, store or atomic is its access check once its rd is a pair (R26, R161, R240). -/
theorem exec_integerAccess {op2 : RegImm} (hi : integerAccess i = some (kind, n, rs1, op2)) (hpair : PairReady i s) :
    ∃ k, exec i s = checkedAccess kind n (dataSpace s) (effectiveAddress rs1 op2 s) s k := by
  cases i with
  | ld | ldub | ldsb | lduh | ldsh | st | stb | sth | ldstub | swap => cases hi; exact ⟨_, rfl⟩
  | ldd rd | std rd => cases hi; exact ⟨_, pairRegister_ready (hpair rd rfl) _⟩
  | _ => exact nomatch hi

/-- As exec_integerAccess, for an alternate-space form with i = 0 in supervisor mode (R162). -/
theorem exec_alternateAccess {rs2 : RegNum} (hi : alternateAccess i = some (kind, n, rs1, .reg rs2 asi))
    (hpriv : privileged s = true) (hpair : PairReady i s) :
    ∃ k, exec i s = checkedAccess kind n asi (alternateAddress rs1 rs2 s) s k := by
  cases i with
  | lda | lduba | ldsba | lduha | ldsha | sta | stba | stha | ldstuba | swapa =>
    cases hi; exact ⟨_, privilegedForm_supervisor hpriv _⟩
  | ldda rd | stda rd => cases hi; exact ⟨_, privilegedPair_ready hpriv (hpair rd rfl) _⟩
  | _ => exact nomatch hi

theorem integerAccess_size {op2 : RegImm} (hi : integerAccess i = some (kind, n, rs1, op2)) : AccessSize n := by
  unfold integerAccess at hi
  split at hi <;> cases hi <;> decide

theorem alternateAccess_size {addr : AltAddr} (hi : alternateAccess i = some (kind, n, rs1, addr)) :
    AccessSize n := by
  unfold alternateAccess at hi
  split at hi <;> cases hi <;> decide

/-- Outside the drain order's own cases no access is out of sequence (R59, R201 step 4). -/
theorem accessSequenceError_eq_false {op2 : RegImm} (hi : fpAccessOf i = some (kind, n, rs1, op2))
    (hdrain : s.fpu.mode = .exception → kind = .write) (hqueue : queueStore i = true → s.fpu.queue ≠ []) :
    accessSequenceError i s = false := by
  cases i with
  | ldf | lddf | ldfsr =>
    cases hi
    exact decide_eq_false fun hm => nomatch hdrain hm
  | stf | stdf | stfsr => rfl
  | stdfq => simpa [accessSequenceError, queueNotEmpty] using hqueue rfl
  | _ => exact nomatch hi

/-! ### The accesses that trap -/

theorem raises_of_exec (h : Settled s) {T : TrapType} (hexec : exec i s = raise T s) : Raises T i s :=
  ⟨_, hexec, trapOutcome_takeTrap h T⟩

/-- An instruction that is its access check traps when the check fails, the alignment first (R161, R503). -/
theorem raises_of_checkedAccess (h : Settled s) (hn : AccessSize n)
    (hexec : ∃ k, exec i s = checkedAccess kind n asi ea s k) :
    (ea.toNat % n ≠ 0 → Raises .memoryAddressNotAligned i s) ∧
      (ea.toNat % n = 0 → accessOk s.cfg kind n asi ea = false → Raises .dataAccessException i s) := by
  obtain ⟨k, hk⟩ := hexec
  exact ⟨fun ha => raises_of_exec h (hk.trans (checkedAccess_misaligned hn ha k)),
    fun ha hr => raises_of_exec h (hk.trans (checkedAccess_refused hn ha hr k))⟩

end

/-- Settles O30: each instruction is its access check, and a check that fails raises its trap. -/
theorem accessTraps : Obligations.AccessTraps := by
  intro s i h hpair
  refine ⟨fun kind n rs1 op2 hi => ?_, fun kind n rs1 rs2 asi hi hs => ?_,
    fun kind n rs1 op2 hi hfpu hef hqs => ?_⟩
  · rw [← dataSpace_mode h]
    exact raises_of_checkedAccess h (integerAccess_size hi) (exec_integerAccess hi hpair)
  · have hpriv : privileged s = true := (privileged_settled h).trans hs
    exact raises_of_checkedAccess h (alternateAccess_size hi) (exec_alternateAccess hi hpriv hpair)
  · have hn := fpAccessOf_size hi
    obtain ⟨k, hk⟩ := exec_fpAccess hi hpair fun hq => (privileged_settled h).trans (hqs hq)
    constructor
    · intro ha
      exact raises_of_exec h (hk.trans (fpAccess_misaligned h hfpu hef (.inr (.inr hn)) ha _ k))
    · intro ha hpend hdrain hqueue hr
      rw [accessSequenceError_eq_false hi hdrain hqueue, dataSpace_mode h] at hk
      exact raises_of_exec h (hk.trans (fpAccess_refused h hfpu hef hpend hn ha hr k))

end Sys2Proof.Proofs

/-! The integer loads, the stores of a byte and of a half-word, and a word read back after it was stored. -/

namespace Sys2Proof.Proofs

open Sys2Proof.Machine Sys2Proof.Laws

/-! ### Loads -/

section
variable {s : State}

theorem loadByte_memory {asi : Asi} {addr : Word} (h : isDevice s.cfg asi addr = false) (fetch : Bool) :
    loadByte fetch asi addr s = readByte asi addr s := if_neg (by simp [h])

theorem loadByte_offset_zero (fetch : Bool) (asi : Asi) (ea : Word) (s : State) :
    loadByte fetch asi (ea + BitVec.ofNat 32 0) s = loadByte fetch asi ea s := by
  rw [BitVec.add_zero]

/-- A word read is its four bytes, most significant first (R84). -/
theorem loadWord_bytes (fetch : Bool) (asi : Asi) (ea : Word) (s : State) :
    loadWord fetch asi ea s =
      loadByte fetch asi (ea + BitVec.ofNat 32 0) s ++ loadByte fetch asi (ea + BitVec.ofNat 32 1) s ++
        loadByte fetch asi (ea + BitVec.ofNat 32 2) s ++ loadByte fetch asi (ea + BitVec.ofNat 32 3) s := by
  rw [loadByte_offset_zero]
  rfl

/-- The second word of a doubleword (R171). -/
theorem loadWord_bytes_four (fetch : Bool) (asi : Asi) (ea : Word) (s : State) :
    loadWord fetch asi (ea + 4#32) s =
      loadByte fetch asi (ea + BitVec.ofNat 32 4) s ++ loadByte fetch asi (ea + BitVec.ofNat 32 5) s ++
        loadByte fetch asi (ea + BitVec.ofNat 32 6) s ++ loadByte fetch asi (ea + BitVec.ofNat 32 7) s := by
  rw [loadWord_bytes, offset_add ea 4 0, offset_add ea 4 1, offset_add ea 4 2, offset_add ea 4 3]

theorem loadHalf_bytes (asi : Asi) (ea : Word) (s : State) :
    loadHalf asi ea s =
      loadByte false asi (ea + BitVec.ofNat 32 0) s ++ loadByte false asi (ea + BitVec.ofNat 32 1) s := by
  rw [loadByte_offset_zero]
  rfl

theorem pairOdd_ne_zero (rd : RegNum) : pairOdd rd ≠ 0#5 := by
  revert rd
  decide

theorem pairWritten_writePair (h : Settled s) (rd : RegNum) (hi lo : Word) :
    PairWritten s.psr.cwp rd hi lo s (writePair rd hi lo s) := by
  intro k
  have hw : ∀ slot, accessWindow slot (writeReg .rd (pairEven rd) hi s) = s.psr.cwp := fun slot => by
    simp [accessWindow, h.2.2.2.2.2.1]
  rw [writePair, writeReg, hw, get_writeRegIn, regWritten_writeReg h .rd (pairEven rd) hi k]
  simp [pairOdd_ne_zero]

/-- A pair receives two words, and nothing else changes but pc and npc. -/
theorem pairEffect_writePair (h : Settled s) (rd : RegNum) (hi lo : Word) :
    PairEffect rd hi lo s (advance (writePair rd hi lo s)) where
  regs k := by simpa using pairWritten_writePair h rd hi lo k
  psr := by simp
  y := by simp
  special := ⟨by simp, by simp, by simp, by simp, by simp, by simp, by simp, by simp, by simp⟩
  units := ⟨by simp, by simp⟩
  memory := ⟨fun _ _ => readByte_of_mem (by simp) _ _, by simp⟩
  advanced := ⟨by simp, by simp⟩
  settled := settled_tick h (by simp)

/-- A load that its checks let pass (R161). -/
theorem loadTo_effect (h : Settled s) {n : Nat} (hn : AccessSize n) {asi : Asi} {ea : Word}
    (hp : AccessPermitted .read n asi ea s) (rd : RegNum) (v : Word) :
    ∃ t, loadTo n asi ea rd v s = .next t ∧ IntegerEffect rd v s.psr.icc s.y s t :=
  ⟨_, checkedAccess_passes hn hp _, integerEffect_writeReg h rd v⟩

theorem loadPairTo_effect (h : Settled s) {asi : Asi} {ea : Word} (hp : AccessPermitted .read 8 asi ea s)
    (rd : RegNum) :
    ∃ t, loadPairTo asi ea rd s = .next t ∧
      PairEffect rd (loadWord false asi ea s) (loadWord false asi (ea + 4#32) s) s t :=
  ⟨_, checkedAccess_passes (by decide) hp _, pairEffect_writePair h rd _ _⟩

end

/-- Settles O24: the checks pass, and the value is the bytes put together. -/
theorem loadResults : Obligations.LoadResults := by
  intro s rd rs1 op2 h ea asi byte
  have hasi : dataSpace s = asi := dataSpace_mode h
  have hbyte : byte 0 = loadByte false asi ea s := loadByte_offset_zero ..
  have hhalf : byte 0 ++ byte 1 = loadHalf asi ea s := (loadHalf_bytes asi ea s).symm
  have hword : byte 0 ++ byte 1 ++ byte 2 ++ byte 3 = loadWord false asi ea s := (loadWord_bytes false asi ea s).symm
  have hsecond : byte 4 ++ byte 5 ++ byte 6 ++ byte 7 = loadWord false asi (ea + 4#32) s :=
    (loadWord_bytes_four false asi ea s).symm
  refine ⟨fun hp => ?_, fun hp => ?_, fun hp => ?_, fun hp => ?_, fun hp => ?_, fun hp hpair => ?_,
    fun k hd => loadByte_memory hd false⟩
  · change ∃ t, execLd rd rs1 op2 s = _ ∧ _
    rw [execLd, hasi, hword]
    exact loadTo_effect h (by decide) hp rd _
  · change ∃ t, execLdub rd rs1 op2 s = _ ∧ _
    rw [execLdub, hasi, hbyte]
    exact loadTo_effect h (by decide) hp rd _
  · change ∃ t, execLdsb rd rs1 op2 s = _ ∧ _
    rw [execLdsb, hasi, hbyte]
    exact loadTo_effect h (by decide) hp rd _
  · change ∃ t, execLduh rd rs1 op2 s = _ ∧ _
    rw [execLduh, hasi, hhalf]
    exact loadTo_effect h (by decide) hp rd _
  · change ∃ t, execLdsh rd rs1 op2 s = _ ∧ _
    rw [execLdsh, hasi, hhalf]
    exact loadTo_effect h (by decide) hp rd _
  · change ∃ t, execLdd rd rs1 op2 s = _ ∧ _
    rw [execLdd, hasi, hword, hsecond, pairRegister_ready hpair]
    exact loadPairTo_effect h hp rd

/-! ### Stores of a byte and of a half-word -/

section
variable {s : State} {asi : Asi} {ea : Word}

theorem bytesPut_half (hm : MemoryCanonical s) (asi : Asi) (ea : Word) (b0 b1 : Byte) :
    BytesPut asi ea [b0, b1] s (putByte asi (ea + 1#32) b1 (putByte asi ea b0 s)) :=
  (bytesPut_putByte hm asi ea b0).append (by simp)
    (bytesPut_putByte (canonical_putByte hm asi ea b0) asi (ea + 1#32) b1) (by simp)

/-- A byte is within the word of its address. -/
theorem bytesStored_storeByte (hm : MemoryCanonical s) (asi : Asi) (ea : Word) (b : Byte) :
    BytesStored asi ea [b] s (storeByte asi ea b s) := by
  refine bytesStored_noteStale (bytesPut_putByte hm asi ea b) (by simp) fun k hk => ?_
  obtain rfl : k = 0 := Nat.lt_one_iff.mp hk
  rw [BitVec.add_zero]

/-- The two bytes of a half-word are within one word. -/
theorem wordBase_half {a : Word} (ha : a.toNat % 2 = 0) {k : Nat} (hk : k < 2) :
    wordBase (a + BitVec.ofNat 32 k) = wordBase a := by
  have hlt := a.isLt
  apply BitVec.eq_of_toNat_eq
  rw [wordBase_toNat, wordBase_toNat, BitVec.toNat_add, BitVec.toNat_ofNat]
  omega

theorem bytesStored_storeHalf (hm : MemoryCanonical s) (asi : Asi) {ea : Word} (ha : ea.toNat % 2 = 0)
    (v : BitVec 16) :
    BytesStored asi ea [v.extractLsb' 8 8, v.extractLsb' 0 8] s (storeHalf asi ea v s) :=
  bytesStored_noteStale (bytesPut_half hm asi ea _ _) (by simp) fun _ hk => wordBase_half ha hk

theorem stored_storeByte (h : Settled s) (hm : MemoryCanonical s) (asi : Asi) (ea : Word) (b : Byte) :
    Stored asi ea [b] s (advance (storeByte asi ea b s)) where
  quiet := quietEffect_advance h (by simp)
  units := ⟨by simp, by simp⟩
  memory := bytesStored_of_same (bytesStored_storeByte hm asi ea b) (by simp) (by simp)

theorem stored_storeHalf (h : Settled s) (hm : MemoryCanonical s) (asi : Asi) {ea : Word} (ha : ea.toNat % 2 = 0)
    (v : BitVec 16) :
    Stored asi ea [v.extractLsb' 8 8, v.extractLsb' 0 8] s (advance (storeHalf asi ea v s)) where
  quiet := quietEffect_advance h (by simp)
  units := ⟨by simp, by simp⟩
  memory := bytesStored_of_same (bytesStored_storeHalf hm asi ha v) (by simp) (by simp)

/-- The low half of a word is its last two bytes. -/
theorem bytesOfWord_drop_two (v : Word) :
    (bytesOfWord v).drop 2 = [(v.extractLsb' 0 16).extractLsb' 8 8, (v.extractLsb' 0 16).extractLsb' 0 8] := by
  simp [bytesOfWord]

theorem storePair_settled (h : Settled s) (asi : Asi) (ea : Word) (rd : RegNum) :
    storePair asi ea rd s =
      storeDouble asi ea (readRegIn s.psr.cwp (pairEven rd) s) (readRegIn s.psr.cwp (pairOdd rd) s) s := by
  rw [storePair, readReg_settled h, readReg_settled h]

/-- A store that its checks let pass (R161). -/
theorem storeFrom_stored {n : Nat} (hn : AccessSize n) (hp : AccessPermitted .write n asi ea s) {t : State}
    {bytes : List Byte} (ht : Stored asi ea bytes s (advance t)) :
    ∃ u, storeFrom n asi ea t s = .next u ∧ Stored asi ea bytes s u :=
  ⟨_, checkedAccess_passes hn hp _, ht⟩

end

/-- Settles O26: the checks pass, and each store is a store within one word, or two of them. -/
theorem storeEffects : Obligations.StoreEffects := by
  intro s rd rs1 op2 h hm ea asi v hi lo
  have hasi : dataSpace s = asi := dataSpace_mode h
  have hv : storeSource rd s = v := readReg_settled h .rd rd
  refine ⟨fun hp => ?_, fun hp => ?_, fun hp => ?_, fun hp hpair => ?_⟩
  · change ∃ t, execSt rd rs1 op2 s = _ ∧ _
    rw [execSt, hasi, hv]
    exact storeFrom_stored (by decide) hp (stored_storeWord h hm asi hp.1 v)
  · change ∃ t, execSth rd rs1 op2 s = _ ∧ _
    rw [execSth, hasi, hv, bytesOfWord_drop_two]
    exact storeFrom_stored (by decide) hp (stored_storeHalf h hm asi hp.1 _)
  · change ∃ t, execStb rd rs1 op2 s = _ ∧ _
    rw [execStb, hasi, hv]
    exact storeFrom_stored (by decide) hp (stored_storeByte h hm asi ea _)
  · change ∃ t, execStd rd rs1 op2 s = _ ∧ _
    rw [execStd, hasi, pairRegister_ready hpair, storePair_settled h]
    exact storeFrom_stored (by decide) hp (stored_storeDouble h hm asi hp.1 hi lo)

end Sys2Proof.Proofs

/-! A word read back after it was stored, the stores of other agents, and the boundary and the fetch of a step. -/

namespace Sys2Proof.Proofs

open Sys2Proof.Machine Sys2Proof.Laws

/-! ### The bytes of a word (R84) -/

theorem getElem_bytesOfWord (w : Word) {k : Nat} (hk : k < (bytesOfWord w).length) :
    (bytesOfWord w)[k] = w.extractLsb' (8 * (3 - k)) 8 := by
  match k, hk with
  | 0, _ | 1, _ | 2, _ | 3, _ => rfl

/-- Two neighbouring bytes of a word are one field of it. -/
theorem append_bytes (w : Word) {k : Nat} (hk : k < 3) :
    (w.extractLsb' (8 * (3 - k)) 8 ++ w.extractLsb' (8 * (3 - (k + 1))) 8 : BitVec 16) =
      w.extractLsb' (8 * (2 - k)) 16 := by
  have hstart : 8 * (3 - (k + 1)) = 8 * (2 - k) := by omega
  rw [hstart]
  exact BitVec.extractLsb'_append_extractLsb'_eq_extractLsb' (by omega)

/-- The four bytes of a word, put together again. -/
theorem append_bytesOfWord (w : Word) :
    w.extractLsb' 24 8 ++ w.extractLsb' 16 8 ++ w.extractLsb' 8 8 ++ w.extractLsb' 0 8 = w := by
  rw [BitVec.extractLsb'_append_extractLsb'_eq_extractLsb' (show 24 = 16 + 8 from rfl),
    BitVec.extractLsb'_append_extractLsb'_eq_extractLsb' (show 16 = 8 + 8 from rfl),
    BitVec.extractLsb'_append_extractLsb'_eq_extractLsb' (show 8 = 0 + 8 from rfl)]
  exact BitVec.extractLsb'_eq_self

/-- A field of a word, extended with zeros, as a number. -/
theorem toNat_field_zeroExtend (w : Word) (start : Nat) {len : Nat} (hlen : len ≤ 32) :
    ((w.extractLsb' start len).zeroExtend 32).toNat = w.toNat / 2 ^ start % 2 ^ len := by
  rw [BitVec.zeroExtend, BitVec.toNat_setWidth_of_le hlen, BitVec.extractLsb'_toNat, Nat.shiftRight_eq_div_pow]

/-! ### A store read back -/

section
variable {s t : State} {asi : Asi} {ea : Word} {w : Word}

/-- A byte of ordinary memory reads as it was stored. -/
theorem loadByte_of_bytesStored {bytes : List Byte} (h : BytesStored asi ea bytes s t) (hcfg : t.cfg = s.cfg) {k : Nat}
    (hk : k < bytes.length) (hd : isDevice s.cfg asi (ea + BitVec.ofNat 32 k) = false) :
    loadByte false asi (ea + BitVec.ofNat 32 k) t = bytes[k] := by
  rw [loadByte_memory (hcfg ▸ hd), h.stored k hk, if_neg (by simp [hd])]

/-- The byte `k` of a stored word. -/
theorem loadByte_of_wordStored (h : BytesStored asi ea (bytesOfWord w) s t) (hcfg : t.cfg = s.cfg)
    (hd : ∀ k < 4, isDevice s.cfg asi (ea + BitVec.ofNat 32 k) = false) {k : Nat} (hk : k < 4) :
    loadByte false asi (ea + BitVec.ofNat 32 k) t = w.extractLsb' (8 * (3 - k)) 8 :=
  (loadByte_of_bytesStored h hcfg (show k < (bytesOfWord w).length from hk) (hd k hk)).trans (getElem_bytesOfWord ..)

/-- The half-word from the byte `k` of a stored word on. -/
theorem loadHalf_of_wordStored (h : BytesStored asi ea (bytesOfWord w) s t) (hcfg : t.cfg = s.cfg)
    (hd : ∀ k < 4, isDevice s.cfg asi (ea + BitVec.ofNat 32 k) = false) {k : Nat} (hk : k < 3) :
    loadHalf asi (ea + BitVec.ofNat 32 k) t = w.extractLsb' (8 * (2 - k)) 16 := by
  rw [loadHalf_bytes, loadByte_offset_zero, offset_add, loadByte_of_wordStored h hcfg hd (Nat.lt_succ_of_lt hk),
    loadByte_of_wordStored h hcfg hd (show k + 1 < 4 from Nat.succ_lt_succ hk), append_bytes w hk]

theorem loadWord_of_wordStored (h : BytesStored asi ea (bytesOfWord w) s t) (hcfg : t.cfg = s.cfg)
    (hd : ∀ k < 4, isDevice s.cfg asi (ea + BitVec.ofNat 32 k) = false) : loadWord false asi ea t = w := by
  have hbyte := fun k hk => loadByte_of_wordStored h hcfg hd (k := k) hk
  rw [loadWord_bytes, hbyte 0 (by decide), hbyte 1 (by decide), hbyte 2 (by decide), hbyte 3 (by decide)]
  exact append_bytesOfWord w

/-- r[rd] after an instruction that wrote it. -/
theorem readRegIn_of_integerEffect {rd : RegNum} {v y : Word} {icc : Icc} (h : IntegerEffect rd v icc y s t)
    (hrd : rd ≠ 0#5) : readRegIn t.psr.cwp rd t = v := by
  have hcwp : t.psr.cwp = s.psr.cwp := by rw [h.psr]
  rw [hcwp, readRegIn, if_neg hrd, h.regs, if_pos ⟨hrd, rfl⟩]

variable {a : Word} {rd rs1 : RegNum} {op2 : RegImm}

/-- What r[rd] holds after LD: the word at its address. -/
theorem ld_reads (h : Settled t) (hasi : modeDataSpace t = asi) (ha : effectiveAddress rs1 op2 t = a)
    (hp : AccessPermitted .read 4 asi a t) (hrd : rd ≠ 0#5) :
    ∃ u, exec (.ld rd rs1 op2) t = .next u ∧ readRegIn u.psr.cwp rd u = loadWord false asi a t := by
  subst hasi ha
  obtain ⟨hld, -⟩ := loadResults t rd rs1 op2 h
  obtain ⟨u, hu, he⟩ := hld hp
  exact ⟨u, hu, (readRegIn_of_integerEffect he hrd).trans (loadWord_bytes ..).symm⟩

/-- As ld_reads, for LDUH. -/
theorem lduh_reads (h : Settled t) (hasi : modeDataSpace t = asi) (ha : effectiveAddress rs1 op2 t = a)
    (hp : AccessPermitted .read 2 asi a t) (hrd : rd ≠ 0#5) :
    ∃ u, exec (.lduh rd rs1 op2) t = .next u ∧
      readRegIn u.psr.cwp rd u = (loadHalf asi a t).zeroExtend 32 := by
  subst hasi ha
  obtain ⟨-, -, -, hlduh, -⟩ := loadResults t rd rs1 op2 h
  obtain ⟨u, hu, he⟩ := hlduh hp
  exact ⟨u, hu, (readRegIn_of_integerEffect he hrd).trans (congrArg _ (loadHalf_bytes ..).symm)⟩

/-- As ld_reads, for LDUB. -/
theorem ldub_reads (h : Settled t) (hasi : modeDataSpace t = asi) (ha : effectiveAddress rs1 op2 t = a)
    (hp : AccessPermitted .read 1 asi a t) (hrd : rd ≠ 0#5) :
    ∃ u, exec (.ldub rd rs1 op2) t = .next u ∧
      readRegIn u.psr.cwp rd u = (loadByte false asi a t).zeroExtend 32 := by
  subst hasi ha
  obtain ⟨-, hldub, -⟩ := loadResults t rd rs1 op2 h
  obtain ⟨u, hu, he⟩ := hldub hp
  exact ⟨u, hu, (readRegIn_of_integerEffect he hrd).trans (congrArg _ (loadByte_offset_zero ..))⟩

end

/-- An offset within a word keeps the alignment that it has itself. -/
theorem mod_offset {n j : Nat} (hn : n ∣ 4) {ea : Word} (ha : ea.toNat % 4 = 0) (hj : j % n = 0) :
    (ea + BitVec.ofNat 32 j).toNat % n = 0 := by
  have hn32 : n ∣ 2 ^ 32 := hn.trans (by decide)
  have hea : n ∣ ea.toNat := hn.trans (Nat.dvd_of_mod_eq_zero ha)
  rw [BitVec.toNat_add, BitVec.toNat_ofNat, Nat.add_mod_mod, Nat.mod_mod_of_dvd _ hn32]
  exact Nat.mod_eq_zero_of_dvd (hea.add (Nat.dvd_of_mod_eq_zero hj))

/-- A half-word's address is twice its index (R592(d), log 32). -/
theorem aligned2_append_zero (x : BitVec 31) : aligned2 (x ++ 0#1) = true := by
  rw [aligned2_iff, BitVec.toNat_append]
  simp [Nat.shiftLeft_eq]

/-- A store of another agent is made as this processor's are (R592(d), log 32). -/
theorem bytesStored_outsideStore {s : State} (hm : MemoryCanonical s) (asi : Asi) :
    (∀ addr v, BytesStored asi addr [v] s (outsideStore (.byte asi addr v) s)) ∧
      (∀ (index : BitVec 31) (v : BitVec 16),
        BytesStored asi (index ++ 0#1) [v.extractLsb' 8 8, v.extractLsb' 0 8] s
          (outsideStore (.half asi index v) s)) ∧
      ∀ (index : BitVec 30) (v : Word),
        BytesStored asi (index ++ 0#2) (bytesOfWord v) s (outsideStore (.word asi index v) s) :=
  ⟨fun addr v => bytesStored_storeByte hm asi addr v,
    fun index v => bytesStored_storeHalf hm asi ((aligned2_iff _).mp (aligned2_append_zero index)) v,
    fun index v => bytesStored_storeWord hm asi ((aligned4_iff _).mp (aligned4_append_zero index)) v⟩

/-- Settles O29: a load of the state after the store reads the bytes that O26 says were stored. -/
theorem storeThenLoad : Obligations.StoreThenLoad := by
  refine ⟨?_, fun s asi hm => bytesStored_outsideStore hm asi⟩
  intro s rd rs1 op2 h hm ea asi w hp hd
  obtain ⟨hstore, -⟩ := storeEffects s rd rs1 op2 h hm
  obtain ⟨t, hexec, hst⟩ := hstore hp
  refine ⟨t, hexec, ?_⟩
  intro rd' rs1' op2' hrd a
  have ht : Settled t := hst.quiet.settled
  have hcfg : t.cfg = s.cfg := hst.quiet.special.cfg
  have hasi : modeDataSpace t = asi := by rw [modeDataSpace, hst.quiet.psr]; rfl
  refine ⟨fun ha hok => ?_, fun k hk ha hok => ?_, fun k hk ha hok => ?_⟩
  · obtain ⟨u, hu, hv⟩ := ld_reads ht hasi ha ⟨hp.1, by rwa [hcfg, ← ha]⟩ hrd
    exact ⟨u, hu, hv.trans (loadWord_of_wordStored hst.memory hcfg hd)⟩
  · obtain ⟨heven, hk3⟩ : k % 2 = 0 ∧ k < 3 := by rcases List.mem_pair.mp hk with rfl | rfl <;> decide
    obtain ⟨u, hu, hv⟩ :=
      lduh_reads ht hasi ha ⟨mod_offset (by decide) hp.1 heven, by rwa [hcfg, ← ha]⟩ hrd
    refine ⟨u, hu, ?_⟩
    rw [hv, loadHalf_of_wordStored hst.memory hcfg hd hk3]
    exact toNat_field_zeroExtend w _ (by decide)
  · obtain ⟨u, hu, hv⟩ := ldub_reads ht hasi ha ⟨Nat.mod_one _, by rwa [hcfg, ← ha]⟩ hrd
    refine ⟨u, hu, ?_⟩
    rw [hv, loadByte_of_wordStored hst.memory hcfg hd hk]
    exact toNat_field_zeroExtend w _ (by decide)

/-! ### The boundary and the fetch (R88, R98, R592) -/

/-- The stores of other agents write memory, and what a fetch may still read, alone. -/
theorem outsideStores_eq (l : List OutsideStore) (s : State) :
    outsideStores l s = { s with stale := (outsideStores l s).stale, mem := (outsideStores l s).mem } := by
  have hfields := outsideStores_fields l s
  generalize outsideStores l s = t at hfields ⊢
  cases t
  obtain ⟨rfl, rfl, rfl, rfl, rfl, rfl, rfl, rfl, rfl, rfl, rfl, rfl, rfl, rfl, rfl, rfl, rfl, rfl, rfl⟩ := hfields
  rfl

theorem boundary_of_nil {s : State} (h : s.schedule = []) : boundary s = { s with draws := s.draws + 1 } := by
  rw [boundary, h]

theorem boundary_of_cons {s : State} {m : Move} {rest : List Move} (h : s.schedule = m :: rest) :
    boundary s =
      outsideStores m.stores { s with draws := s.draws + 1, inputs := m.inputs, schedule := rest } := by
  rw [boundary, h]

/-- A boundary with nothing to do first comes to the fetch (R13). -/
theorem step_eq_fetchAndExecute {s : State} (hreset : (boundary s).inputs.resetReq = false)
    (hmode : (boundary s).mode = .run) (hint : interruptTaken (boundary s) = false)
    (hannul : (boundary s).annul = false) : step s = fetchAndExecute (boundary s) := by
  have hr : ((boundary s).inputs.resetReq ||
      (decide ((boundary s).mode = .error) && (boundary s).cfg.errorModeResets)) = false := by rw [hreset, hmode]; rfl
  rw [step, stepFrom, if_neg (by simp only [hr]; decide), if_neg (by rw [hmode]; decide),
    if_neg (by rw [hint]; decide), if_neg (by rw [hannul]; decide)]

theorem fetchAndExecute_instr {s : State} {w : Word} {i : Instr} (hf : fetch s = some w) (hw : decode w = .instr i) :
    fetchAndExecute s = exec i s := by
  simp [fetchAndExecute, execWord, hf, hw]

/-- A fetch of four bytes of ordinary memory (R88, R98). -/
theorem fetch_memory {s : State} (hok : accessOk s.cfg .execute 4 (fetchSpace s) s.pc = true)
    (hd : ∀ k < 4, isDevice s.cfg (fetchSpace s) (s.pc + BitVec.ofNat 32 k) = false) :
    fetch s = some (pickFree (readWord (fetchSpace s) s.pc s) (staleValues s.pc s) s.draws .staleFetch) := by
  have hbyte : ∀ k < 4, loadByte true (fetchSpace s) (s.pc + BitVec.ofNat 32 k) s =
      readByte (fetchSpace s) (s.pc + BitVec.ofNat 32 k) s := fun k hk => loadByte_memory (hd k hk) true
  have hword : loadWord true (fetchSpace s) s.pc s = readWord (fetchSpace s) s.pc s := by
    rw [loadWord_bytes, hbyte 0 (by decide), hbyte 1 (by decide), hbyte 2 (by decide), hbyte 3 (by decide),
      BitVec.add_zero]
    rfl
  rw [fetch, if_pos hok, hword]

/-- Settles O5: what the boundary writes, and the word that the fetch picks. -/
theorem stepRunsDecoded : Obligations.StepRunsDecoded := by
  rintro s b rfl
  refine ⟨?_, boundary_of_nil, fun m rest => boundary_of_cons, fun hreset hmode hint hannul hok hd => ?_⟩
  · cases hsch : s.schedule with
    | nil => exact ⟨s.inputs, [], s.stale, s.mem, by rw [boundary_of_nil hsch, ← hsch]⟩
    | cons m rest =>
      rw [boundary_of_cons hsch, outsideStores_eq]
      exact ⟨m.inputs, rest, _, _, rfl⟩
  · have hfetch := fetch_memory hok hd
    have hstep := step_eq_fetchAndExecute hreset hmode hint hannul
    have hrun {w : Word} (hw : fetch (boundary s) = some w) (i : Instr) (hi : decode w = .instr i) :
        step s = exec i (boundary s) := hstep.trans (fetchAndExecute_instr hw hi)
    refine ⟨⟨_, List.mem_cons.mpr (pickFree_mem _ _ _ _), hfetch, hrun hfetch⟩, fun hstale => ?_⟩
    rw [hstale, pickFree_nil] at hfetch
    exact hrun hfetch

end Sys2Proof.Proofs

/-! The coprocessor loads, stores and operate instructions. -/

namespace Sys2Proof.Proofs

open Sys2Proof.Machine Sys2Proof.Laws

section
variable {s t : State} {asi : Asi} {ea : Word}

theorem cpEnabled_ready (h : CpReady s) : cpEnabled s = true := by
  obtain ⟨hs, hcp, hec, -⟩ := h
  rw [cpEnabled_settled hs, hcp, hec]
  rfl

/-- A coprocessor access that passes every check of R202. -/
theorem cpAccess_passes (h : CpReady s) {kind : AccessKind} {n : Nat} (hn : AccessSize n)
    (hp : AccessPermitted kind n asi ea s) (load : Bool) (k : Outcome) : cpAccess load kind n asi ea s k = k := by
  have he := cpEnabled_ready h
  obtain ⟨-, -, -, hpending⟩ := h
  rw [cpAccess, if_pos he, if_pos ((alignedTo_iff hn ea).mpr hp.1), hpending,
    if_neg Bool.false_ne_true, if_pos hp.2]

/-- A read of a c register after a write of one (R60). -/
theorem readC_writeC (n m : RegNum) (v : Word) (s : State) :
    readC n (writeC m v s) = if n = m then v else readC n s := by
  simp only [readC, writeC, Vector.get_eq_getElem, Vector.getElem_set, BitVec.toNat_inj, eq_comm]

/-- A body that writes c registers and the CSR alone, then the end of its instruction. -/
theorem cpLoaded_advance (h : Settled s) (cp : Coprocessor) (hccc : cp.ccc = s.cp.ccc) (hqueue : cp.queue = s.cp.queue)
    (hpending : cp.pending = s.cp.pending) :
    CpLoaded (fun n => readC n { s with cp := cp }) cp.csr s (advance { s with cp := cp }) where
  registers _ := rfl
  csr := rfl
  ccc := hccc
  queue := hqueue
  pending := hpending
  quiet := quietEffect_advance h (by simp)
  fpu := rfl
  memory := ⟨fun _ _ => rfl, rfl⟩

theorem cpLoaded_writeC (h : Settled s) (rd : RegNum) (v : Word) :
    CpLoaded (fun n => if n = rd then v else readC n s) s.cp.csr s (advance (writeC rd v s)) := by
  simp only [← readC_writeC]
  exact cpLoaded_advance h _ rfl rfl rfl

theorem cpLoaded_writeC_pair (h : Settled s) (rd : RegNum) (hi lo : Word) :
    CpLoaded (fun n => if n = pairOdd rd then lo else if n = pairEven rd then hi else readC n s) s.cp.csr s
      (advance (writeC (pairOdd rd) lo (writeC (pairEven rd) hi s))) := by
  simp only [← readC_writeC]
  exact cpLoaded_advance h _ rfl rfl rfl

/-- The word of a CPop, as its exec arm encodes it (R460, R461). -/
theorem encodeFormat3_opfBits (op : BitVec 2) (rd : RegNum) (op3 : BitVec 6) (rs1 : RegNum) (opc : BitVec 9)
    (rs2 : RegNum) : encodeFormat3 op rd op3 rs1 (opfBits opc rs2) = op ++ rd ++ op3 ++ rs1 ++ opc ++ rs2 := by
  rw [encodeFormat3, opfBits, BitVec.append_assoc']
  rfl

/-- A CPop hands its word to the coprocessor (R460, R461). -/
theorem exec_cpop (h : CpReady s) {i : Instr} {word : Word} (hi : cpopWord i = some word) :
    exec i s = .next (advance (coprocessorOperate word s)) := by
  have henabled := cpEnabled_ready h
  obtain ⟨-, -, -, hpending⟩ := h
  cases i with
  | cpop1 rd rs1 opc rs2 | cpop2 rd rs1 opc rs2 =>
    cases hi
    rw [← encodeFormat3_opfBits]
    exact cpOperate_ready henabled hpending _
  | _ => exact nomatch hi

end

/-- Settles O52: the checks pass, and what is left writes the coprocessor alone, or is one or two word stores. -/
theorem coprocessorEffects : Obligations.CoprocessorEffects := by
  intro s rd rs1 op2 hr hm ea asi w lo
  have h : Settled s := hr.1
  have hasi : dataSpace s = asi := dataSpace_mode h
  refine ⟨fun hp => ?_, fun hp hpair => ?_, fun hp => ?_, fun hp => ?_, fun hp hpair => ?_, fun hp => ?_,
    fun hp hs e rest hq => ?_, fun i word hi => exec_cpop hr hi⟩
  · have hexec : exec (.ldc rd rs1 op2) s = .next (advance (writeC rd w s)) := by
      change execLdc rd rs1 op2 s = _
      rw [execLdc, hasi]
      exact cpAccess_passes hr (by decide) hp _ _
    exact ⟨_, hexec, cpLoaded_writeC h rd w⟩
  · have hexec : exec (.lddc rd rs1 op2) s =
        .next (advance (writeC (pairOdd rd) lo (writeC (pairEven rd) w s))) := by
      change execLddc rd rs1 op2 s = _
      obtain ⟨hill, href⟩ := oddRd_of_pairNumber hpair
      rw [execLddc, hasi, hill, href]
      exact cpAccess_passes hr (by decide) hp _ _
    exact ⟨_, hexec, cpLoaded_writeC_pair h rd w lo⟩
  · have hexec : exec (.ldcsr rs1 op2) s = .next (advance { s with cp := { s.cp with csr := w } }) := by
      change execLdcsr rs1 op2 s = _
      rw [execLdcsr, hasi]
      exact cpAccess_passes hr (by decide) hp _ _
    exact ⟨_, hexec, cpLoaded_advance h { s.cp with csr := w } rfl rfl rfl⟩
  · have hexec : exec (.stc rd rs1 op2) s = .next (advance (storeWord asi ea (readC rd s) s)) := by
      change execStc rd rs1 op2 s = _
      rw [execStc, hasi]
      exact cpAccess_passes hr (by decide) hp _ _
    exact ⟨_, hexec, stored_storeWord h hm asi hp.1 _⟩
  · have hexec : exec (.stdc rd rs1 op2) s =
        .next (advance (storeDouble asi ea (readC (pairEven rd) s) (readC (pairOdd rd) s) s)) := by
      change execStdc rd rs1 op2 s = _
      rw [execStdc, hasi, pairRegister_ready hpair]
      exact cpAccess_passes hr (by decide) hp _ _
    exact ⟨_, hexec, stored_storeDouble h hm asi hp.1 _ _⟩
  · have hexec : exec (.stcsr rs1 op2) s = .next (advance (storeWord asi ea s.cp.csr s)) := by
      change execStcsr rs1 op2 s = _
      rw [execStcsr, hasi]
      exact cpAccess_passes hr (by decide) hp _ _
    exact ⟨_, hexec, stored_storeWord h hm asi hp.1 _⟩
  · have hpriv : privileged s = true := (privileged_settled h).trans hs
    have hfront : cpFrontEntry s = e := by rw [cpFrontEntry, hq]
    have hexec : exec (.stdcq rs1 op2) s = .next (advance { storeDouble asi ea e.addr e.instr s with
        cp := { s.cp with queue := Config.cpQueueAfterStore s.draws s.cp.queue } }) := by
      change execStdcq rs1 op2 s = _
      rw [execStdcq, hasi, if_pos hpriv, hfront]
      exact cpAccess_passes hr (by decide) hp _ _
    exact ⟨_, hexec, quietEffect_advance h (by simp),
      bytesStored_of_same (bytesStored_storeDouble hm asi hp.1 _ _) (by simp) (by simp), by simp, _, rfl⟩

end Sys2Proof.Proofs

/-! The decoder: the table that each word is decoded by, the words that the tables leave out, and the words that the
encoder writes read back. -/

namespace Sys2Proof.Proofs

open Sys2Proof.Machine Sys2Proof.Laws

/-! ### The tables that a word's op field chooses (R127) -/

section
variable {w : Word}

theorem decode_format2 (h : fieldOp w = 0b00#2) : decode w = decodeFormat2 w := by simp only [decode, h]

theorem decode_call (h : fieldOp w = 0b01#2) : decode w = .instr (.call (fieldDisp30 w)) := by simp only [decode, h]

theorem decode_arith (h : fieldOp w = 0b10#2) : decode w = decodeArith w := by simp only [decode, h]

theorem decode_memory (h : fieldOp w = 0b11#2) : decode w = decodeMemory w := by simp only [decode, h]

end

/-- The op field has four values. -/
theorem fieldOp_cases (w : Word) :
    fieldOp w = 0b00#2 ∨ fieldOp w = 0b01#2 ∨ fieldOp w = 0b10#2 ∨ fieldOp w = 0b11#2 := by
  generalize fieldOp w = op
  revert op
  decide

/-! ### The words that name no instruction (R128 to R131) -/

section
variable {c : Prop} [Decidable c] {i : Instr} {d e : Decoded}

/-- A row of a table that names an instruction leaves the unassigned words to the rows below it. -/
theorem ite_instr_eq_unassigned : (if c then .instr i else d) = Decoded.unassigned ↔ ¬ c ∧ d = .unassigned := by
  by_cases h : c <;> simp [h]

theorem ite_instr_eq_unimplementedFpop :
    (if c then .instr i else d) = Decoded.unimplementedFpop ↔ ¬ c ∧ d = .unimplementedFpop := by
  by_cases h : c <;> simp [h]

/-- A row that hands the word to another table, which leaves none unassigned. -/
theorem ite_eq_unassigned (he : e ≠ .unassigned) :
    (if c then e else d) = .unassigned ↔ ¬ c ∧ d = .unassigned := by
  by_cases h : c <;> simp [h, he]

end

theorem decodeFpop1_ne_unassigned (w : Word) : decodeFpop1 w ≠ .unassigned := by
  simp [decodeFpop1, ite_instr_eq_unassigned]

theorem decodeFpop2_ne_unassigned (w : Word) : decodeFpop2 w ≠ .unassigned := by
  simp [decodeFpop2, ite_instr_eq_unassigned]

theorem decodeFormat2_unassigned_iff (w : Word) :
    decodeFormat2 w = .unassigned ↔ fieldOp2 w ∈ [0b001#3, 0b011#3, 0b101#3] := by
  simp only [decodeFormat2, ite_instr_eq_unassigned, and_true]
  generalize fieldOp2 w = op2
  revert op2
  decide

/-- The op3 values that R129 assigns. -/
def arithOp3s : List (BitVec 6) :=
  [0b000000#6, 0b000001#6, 0b000010#6, 0b000011#6, 0b000100#6, 0b000101#6, 0b000110#6, 0b000111#6, 0b001000#6,
    0b001010#6, 0b001011#6, 0b001100#6, 0b001110#6, 0b001111#6, 0b010000#6, 0b010001#6, 0b010010#6, 0b010011#6,
    0b010100#6, 0b010101#6, 0b010110#6, 0b010111#6, 0b011000#6, 0b011010#6, 0b011011#6, 0b011100#6, 0b011110#6,
    0b011111#6, 0b100000#6, 0b100001#6, 0b100010#6, 0b100011#6, 0b100100#6, 0b100101#6, 0b100110#6, 0b100111#6,
    0b101000#6, 0b101001#6, 0b101010#6, 0b101011#6, 0b110000#6, 0b110001#6, 0b110010#6, 0b110011#6, 0b110100#6,
    0b110101#6, 0b110110#6, 0b110111#6, 0b111000#6, 0b111001#6, 0b111010#6, 0b111011#6, 0b111100#6, 0b111101#6]

/-- The op3 values that R130 assigns. -/
def memoryOp3s : List (BitVec 6) :=
  [0b000000#6, 0b000001#6, 0b000010#6, 0b000011#6, 0b000100#6, 0b000101#6, 0b000110#6, 0b000111#6, 0b001001#6,
    0b001010#6, 0b001101#6, 0b001111#6, 0b010000#6, 0b010001#6, 0b010010#6, 0b010011#6, 0b010100#6, 0b010101#6,
    0b010110#6, 0b010111#6, 0b011001#6, 0b011010#6, 0b011101#6, 0b011111#6, 0b100000#6, 0b100001#6, 0b100011#6,
    0b100100#6, 0b100101#6, 0b100110#6, 0b100111#6, 0b110000#6, 0b110001#6, 0b110011#6, 0b110100#6, 0b110101#6,
    0b110110#6, 0b110111#6]

theorem decodeArith_unassigned_iff_notMem (w : Word) : decodeArith w = .unassigned ↔ fieldOp3 w ∉ arithOp3s := by
  simp [decodeArith, arithOp3s, ite_instr_eq_unassigned, ite_eq_unassigned (decodeFpop1_ne_unassigned w),
    ite_eq_unassigned (decodeFpop2_ne_unassigned w)]

theorem decodeMemory_unassigned_iff_notMem (w : Word) : decodeMemory w = .unassigned ↔ fieldOp3 w ∉ memoryOp3s := by
  simp [decodeMemory, memoryOp3s, ite_instr_eq_unassigned]

theorem decodeArith_unassigned_iff (w : Word) :
    decodeArith w = .unassigned ↔ fieldOp3 w ∈ [0b001001#6, 0b001101#6, 0b011001#6, 0b011101#6, 0b101100#6,
      0b101101#6, 0b101110#6, 0b101111#6, 0b111110#6, 0b111111#6] := by
  rw [decodeArith_unassigned_iff_notMem]
  generalize fieldOp3 w = op3
  revert op3
  decide

theorem decodeMemory_unassigned_iff (w : Word) :
    decodeMemory w = .unassigned ↔ fieldOp3 w ∈ [0b001000#6, 0b001011#6, 0b001100#6, 0b001110#6, 0b011000#6,
      0b011011#6, 0b011100#6, 0b011110#6, 0b100010#6, 0b101000#6, 0b101001#6, 0b101010#6, 0b101011#6, 0b101100#6,
      0b101101#6, 0b101110#6, 0b101111#6, 0b110010#6, 0b111000#6, 0b111001#6, 0b111010#6, 0b111011#6, 0b111100#6,
      0b111101#6, 0b111110#6, 0b111111#6] := by
  rw [decodeMemory_unassigned_iff_notMem]
  generalize fieldOp3 w = op3
  revert op3
  decide

theorem decodeFpop1_unimplementedFpop_iff (w : Word) :
    decodeFpop1 w = .unimplementedFpop ↔
      fieldOpf w ∉ [0x001#9, 0x005#9, 0x009#9, 0x029#9, 0x02A#9, 0x02B#9, 0x041#9, 0x042#9, 0x043#9,
        0x045#9, 0x046#9, 0x047#9, 0x049#9, 0x04A#9, 0x04B#9, 0x04D#9, 0x04E#9, 0x04F#9, 0x069#9, 0x06E#9, 0x0C4#9,
        0x0C6#9, 0x0C7#9, 0x0C8#9, 0x0C9#9, 0x0CB#9, 0x0CC#9, 0x0CD#9, 0x0CE#9, 0x0D1#9, 0x0D2#9, 0x0D3#9] := by
  simp [decodeFpop1, ite_instr_eq_unimplementedFpop]

theorem decodeFpop2_unimplementedFpop_iff (w : Word) :
    decodeFpop2 w = .unimplementedFpop ↔
      fieldOpf w ∉ [0x051#9, 0x052#9, 0x053#9, 0x055#9, 0x056#9, 0x057#9] := by
  simp [decodeFpop2, ite_instr_eq_unimplementedFpop]

theorem decodeFormat2_ne_unimplementedFpop (w : Word) : decodeFormat2 w ≠ .unimplementedFpop := by
  simp [decodeFormat2, ite_instr_eq_unimplementedFpop]

theorem decodeMemory_ne_unimplementedFpop (w : Word) : decodeMemory w ≠ .unimplementedFpop := by
  simp [decodeMemory, ite_instr_eq_unimplementedFpop]

/-- Among the words with op = 10 only the FPops can be unimplemented FPops. -/
theorem decodeArith_unimplementedFpop_iff (w : Word) :
    decodeArith w = .unimplementedFpop ↔
      (fieldOp3 w = 0b110100#6 ∧ decodeFpop1 w = .unimplementedFpop) ∨
      (fieldOp3 w = 0b110101#6 ∧ decodeFpop2 w = .unimplementedFpop) := by
  by_cases h1 : fieldOp3 w = 0b110100#6
  · simp [decodeArith, h1]
  · by_cases h2 : fieldOp3 w = 0b110101#6
    · simp [decodeArith, h2]
    · simp [decodeArith, h1, h2, ite_instr_eq_unimplementedFpop]

/-- Settles O4: the op field chooses a table, and each table says which of its words it leaves out. -/
theorem unassignedWords : Obligations.UnassignedWords := by
  intro w
  rw [← decodeFormat2_unassigned_iff, ← decodeArith_unassigned_iff, ← decodeMemory_unassigned_iff,
    ← decodeFpop1_unimplementedFpop_iff, ← decodeFpop2_unimplementedFpop_iff]
  obtain h | h | h | h := fieldOp_cases w
  · simp [decode_format2 h, h, decodeFormat2_ne_unimplementedFpop]
  · simp [decode_call h, h]
  · simp [decode_arith h, h, decodeArith_unimplementedFpop_iff]
  · simp [decode_memory h, h, decodeMemory_ne_unimplementedFpop]

/-! ### The tables that an encoded word is decoded by (R121 to R123, R127) -/

@[simp] theorem decode_encodeFormat1 (disp30 : BitVec 30) :
    decode (encodeFormat1 disp30) = .instr (.call disp30) := by
  rw [decode_call (fieldOp_encodeFormat1 disp30), fieldDisp30_encodeFormat1]

@[simp] theorem decode_encodeFormat2 (rd : RegNum) (op2 : BitVec 3) (imm22 : BitVec 22) :
    decode (encodeFormat2 rd op2 imm22) = decodeFormat2 (encodeFormat2 rd op2 imm22) :=
  decode_format2 (fieldOp_encodeFormat2 ..)

@[simp] theorem decode_encodeBranch (a : Bool) (cond : BitVec 4) (op2 : BitVec 3) (disp22 : BitVec 22) :
    decode (encodeBranch a cond op2 disp22) = decodeFormat2 (encodeBranch a cond op2 disp22) :=
  decode_format2 (fieldOp_encodeBranch ..)

@[simp] theorem decode_encodeFormat3_arith (rd : RegNum) (op3 : BitVec 6) (rs1 : RegNum) (low : BitVec 14) :
    decode (encodeFormat3 0b10#2 rd op3 rs1 low) = decodeArith (encodeFormat3 0b10#2 rd op3 rs1 low) :=
  decode_arith (fieldOp_encodeFormat3 ..)

@[simp] theorem decode_encodeFormat3_memory (rd : RegNum) (op3 : BitVec 6) (rs1 : RegNum) (low : BitVec 14) :
    decode (encodeFormat3 0b11#2 rd op3 rs1 low) = decodeMemory (encodeFormat3 0b11#2 rd op3 rs1 low) :=
  decode_memory (fieldOp_encodeFormat3 ..)

/-- The families are the decoder's tables; what is left at the end are the rows of R129 that have no table of their
own. -/
theorem decode_encode (i : Instr) (h : i.WellFormed) : decode (encode i) = .instr i := by
  cases i with
  | call | unimp | sethi => simp [encode, decodeFormat2]
  | bn | be | ble | bl | bleu | bcs | bneg | bvs | ba | bne | bg | bge | bgu | bcc | bpos | bvc =>
    simp [encode, decodeFormat2, decodeBicc]
  | fbn | fbne | fblg | fbul | fbl | fbug | fbg | fbu | fba | fbe | fbue | fbge | fbuge | fble | fbule | fbo =>
    simp [encode, decodeFormat2, decodeFbfcc]
  | cbn | cb123 | cb12 | cb13 | cb1 | cb23 | cb2 | cb3 | cba | cb0 | cb03 | cb02 | cb023 | cb01 | cb013 | cb012 =>
    simp [encode, decodeFormat2, decodeCbccc]
  | fmovs | fnegs | fabss | fsqrts | fsqrtd | fsqrtq | fadds | faddd | faddq | fsubs | fsubd | fsubq | fmuls | fmuld
  | fmulq | fdivs | fdivd | fdivq | fsmuld | fdmulq | fitos | fitod | fitoq | fstoi | fdtoi | fqtoi | fstod | fstoq
  | fdtos | fdtoq | fqtos | fqtod =>
    simp [encode, decodeArith, decodeFpop1]
  | fcmps | fcmpd | fcmpq | fcmpes | fcmped | fcmpeq => simp [encode, decodeArith, decodeFpop2]
  | tn | te | tle | tl | tleu | tcs | tneg | tvs | ta | tne | tg | tge | tgu | tcc | tpos | tvc =>
    simp [encode, decodeArith, decodeTicc]
  | rdasr rd rs1 =>
    have hrs1 : rs1 ≠ 0#5 := by rintro rfl; cases h
    simp [encode, decodeArith, hrs1]
  | wrasr rd rs1 op2 =>
    have hrd : rd ≠ 0#5 := by rintro rfl; cases h
    simp [encode, decodeArith, hrd]
  | ld | ldub | lduh | ldd | st | stb | sth | std | ldsb | ldsh | ldstub | swap | ldf | ldfsr | lddf | stf | stfsr
  | stdfq | stdf | ldc | ldcsr | lddc | stc | stcsr | stdcq | stdc | lda | lduba | lduha | ldda | sta | stba | stha
  | stda | ldsba | ldsha | ldstuba | swapa =>
    simp [encode, decodeMemory]
  | _ => simp [encode, decodeArith]

/-! ### The bytes and the number of a word (R84, R120) -/

theorem decodeBytes_bytesOfWord (w : Word) : decodeBytes (bytesOfWord w) = some (decode w) := by
  rw [bytesOfWord, decodeBytes, wordOfBytes, append_bytesOfWord]

theorem tableWord_toNat (w : Word) : tableWord 32 w.toNat = w := by
  rw [tableWord, Nat.mod_eq_of_lt w.isLt, BitVec.ofNat_toNat, BitVec.setWidth_eq]

theorem decodeTableWord_of_decode {w : Word} {i : Instr} (h : decode w = .instr i) :
    decodeTableWord 32 w.toNat = some i := by
  simp only [decodeTableWord, tableWord_toNat, decodeBytes_bytesOfWord, h]

/-- Settles O2: instruction by instruction, the table of its format reads its row back; the bytes and the table's
number stand for the same word. -/
theorem decodeEncodeAgree : Obligations.DecodeEncodeAgree := by
  intro i hi
  have hw := decode_encode i hi
  exact ⟨hw, by rw [decodeBytes_bytesOfWord, hw], decodeTableWord_of_decode hw⟩

end Sys2Proof.Proofs

/-! The loads and stores of an alternate space in supervisor mode. -/

namespace Sys2Proof.Proofs

open Sys2Proof.Machine Sys2Proof.Laws

section
variable {s : State} {asi : Asi} {ea : Word} {n : Nat}

/-- In supervisor mode an alternate-space load is the load in the space that its asi field names (R162). -/
theorem privilegedLoad_effect (h : Settled s) (hs : s.psr.s = true) (hn : AccessSize n)
    (hp : AccessPermitted .read n asi ea s) (rd : RegNum) (v : Word) :
    ∃ t, privilegedForm false s (loadTo n asi ea rd v s) = .next t ∧ IntegerEffect rd v s.psr.icc s.y s t := by
  rw [privilegedForm_supervisor ((privileged_settled h).trans hs)]
  exact loadTo_effect h hn hp rd v

theorem privilegedLoadPair_effect (h : Settled s) (hs : s.psr.s = true) (hp : AccessPermitted .read 8 asi ea s)
    {rd : RegNum} (hpair : PairNumber rd s) :
    ∃ t, privilegedPair rd s (loadPairTo asi ea rd s) = .next t ∧
      PairEffect rd (loadWord false asi ea s) (loadWord false asi (ea + 4#32) s) s t := by
  rw [privilegedPair_ready ((privileged_settled h).trans hs) hpair]
  exact loadPairTo_effect h hp rd

/-- As privilegedLoad_effect, for a store. -/
theorem privilegedStore_stored (h : Settled s) (hs : s.psr.s = true) (hn : AccessSize n)
    (hp : AccessPermitted .write n asi ea s) {t : State} {bytes : List Byte} (ht : Stored asi ea bytes s (advance t)) :
    ∃ u, privilegedForm false s (storeFrom n asi ea t s) = .next u ∧ Stored asi ea bytes s u := by
  rw [privilegedForm_supervisor ((privileged_settled h).trans hs)]
  exact storeFrom_stored hn hp ht

theorem privilegedStorePair_stored (h : Settled s) (hs : s.psr.s = true) (hm : MemoryCanonical s)
    (hp : AccessPermitted .write 8 asi ea s) {rd : RegNum} (hpair : PairNumber rd s) :
    ∃ u, privilegedPair rd s (storeFrom 8 asi ea (storePair asi ea rd s) s) = .next u ∧
      Stored asi ea (bytesOfWord (readRegIn s.psr.cwp (pairEven rd) s) ++
        bytesOfWord (readRegIn s.psr.cwp (pairOdd rd) s)) s u := by
  rw [privilegedPair_ready ((privileged_settled h).trans hs) hpair, storePair_settled h]
  exact storeFrom_stored (by decide) hp (stored_storeDouble h hm asi hp.1 _ _)

end

/-- Settles O25: the privilege check passes, and what is left is the load of R161 in the space named. -/
theorem alternateLoadResults : Obligations.AlternateLoadResults := by
  intro s rd rs1 rs2 asi h hs ea byte
  have hbyte : byte 0 = loadByte false asi ea s := loadByte_offset_zero ..
  have hhalf : byte 0 ++ byte 1 = loadHalf asi ea s := (loadHalf_bytes asi ea s).symm
  have hword : byte 0 ++ byte 1 ++ byte 2 ++ byte 3 = loadWord false asi ea s := (loadWord_bytes false asi ea s).symm
  have hsecond : byte 4 ++ byte 5 ++ byte 6 ++ byte 7 = loadWord false asi (ea + 4#32) s :=
    (loadWord_bytes_four false asi ea s).symm
  rw [hword, hsecond, hhalf, hbyte]
  refine ⟨fun hp => ?lda, fun hp => ?lduba, fun hp => ?ldsba, fun hp => ?lduha, fun hp => ?ldsha,
    fun hp hpair => ?ldda⟩
  case ldda => exact privilegedLoadPair_effect h hs hp hpair
  all_goals exact privilegedLoad_effect h hs (by decide) hp rd _

/-- Settles O27: the privilege check passes, and what is left is the store of R161 in the space named. -/
theorem alternateStoreEffects : Obligations.AlternateStoreEffects := by
  intro s rd rs1 rs2 asi h hm hs ea v hi lo
  have hv : storeSource rd s = v := readReg_settled h .rd rd
  refine ⟨fun hp => ?sta, fun hp => ?stha, fun hp => ?stba, fun hp hpair => ?stda⟩
  case stda => exact privilegedStorePair_stored h hs hm hp hpair
  all_goals rw [← hv]
  case sta => exact privilegedStore_stored h hs (by decide) hp (stored_storeWord h hm asi hp.1 _)
  case stha =>
    rw [bytesOfWord_drop_two]
    exact privilegedStore_stored h hs (by decide) hp (stored_storeHalf h hm asi hp.1 _)
  case stba => exact privilegedStore_stored h hs (by decide) hp (stored_storeByte h hm asi ea _)

end Sys2Proof.Proofs

/-! The floating-point loads: what they write of the FPU, and that they write nothing else. -/

namespace Sys2Proof.Proofs

open Sys2Proof.Machine Sys2Proof.Laws

section
variable {s : State} {asi : Asi} {ea : Word}

theorem drainingQueue_ready (h : FpuReady s) : drainingQueue s = false := by
  obtain ⟨-, -, -, hmode⟩ := h
  simp [drainingQueue, hmode]

/-- A floating-point load that passes every check of R201. -/
theorem fpLoadAccess_passes (h : FpuReady s) {n : Nat} (hn : n = 4 ∨ n = 8) (hp : AccessPermitted .read n asi ea s)
    (k : Outcome) : fpAccess .read n (drainingQueue s) asi ea s k = k := by
  have hdrain := drainingQueue_ready h
  obtain ⟨hs, hfpu, hef, hmode⟩ := h
  rw [hdrain]
  exact fpAccess_passes hs hfpu hef (by simp [hmode]) hn hp k

/-- A read of an f register after a write of one (R55). -/
theorem readF_writeF (n m : RegNum) (v : Word) (s : State) :
    readF n (writeF m v s) = if n = m then v else readF n s := by
  simp only [readF, writeF, Vector.get_eq_getElem, Vector.getElem_set, BitVec.toNat_inj, eq_comm]

/-- A body that writes f registers and the FSR alone, then the end of its instruction. -/
theorem fpLoaded_advance (h : Settled s) (fpu : Fpu) (hqueue : fpu.queue = s.fpu.queue)
    (hmode : fpu.mode = s.fpu.mode) :
    FpLoaded (fun n => readF n { s with fpu := fpu }) fpu.fsr s (advance { s with fpu := fpu }) where
  registers _ := rfl
  fsr := rfl
  queue := hqueue
  mode := hmode
  quiet := quietEffect_advance h (by simp)
  cp := rfl
  memory := ⟨fun _ _ => rfl, rfl⟩

theorem fpLoaded_writeF (h : Settled s) (rd : RegNum) (v : Word) :
    FpLoaded (fun n => if n = rd then v else readF n s) s.fpu.fsr s (advance (writeF rd v s)) := by
  simp only [← readF_writeF]
  exact fpLoaded_advance h _ rfl rfl

theorem fpLoaded_writeF_pair (h : Settled s) (rd : RegNum) (hi lo : Word) :
    FpLoaded (fun n => if n = pairOdd rd then lo else if n = pairEven rd then hi else readF n s) s.fpu.fsr s
      (advance (writeF (pairOdd rd) lo (writeF (pairEven rd) hi s))) := by
  simp only [← readF_writeF]
  exact fpLoaded_advance h _ rfl rfl

/-- LDFSR writes the FSR's own fields, and no f register (R207). -/
theorem fpLoaded_loadFsr (h : Settled s) (w : Word) :
    FpLoaded (fun n => readF n s) (loadFsr w s.fpu.fsr) s
      (advance { s with fpu := { s.fpu with fsr := loadFsr w s.fpu.fsr } }) :=
  fpLoaded_advance h { s.fpu with fsr := loadFsr w s.fpu.fsr } rfl rfl

end

/-- Settles O45: the checks pass, and what is left writes f registers or the FSR alone. -/
theorem fpLoadEffects : Obligations.FpLoadEffects := by
  intro s rd rs1 op2 hr ea asi w lo
  have h : Settled s := hr.1
  have hasi : dataSpace s = asi := dataSpace_mode h
  refine ⟨fun hp => ?ldf, fun hp hpair => ?lddf, fun hp => ?ldfsr⟩
  case ldf =>
    have hexec : exec (.ldf rd rs1 op2) s = .next (advance (writeF rd w s)) := by
      change execLdf rd rs1 op2 s = _
      rw [execLdf, hasi]
      exact fpLoadAccess_passes hr (.inl rfl) hp _
    exact ⟨_, hexec, fpLoaded_writeF h rd w⟩
  case lddf =>
    have hexec : exec (.lddf rd rs1 op2) s =
        .next (advance (writeF (pairOdd rd) lo (writeF (pairEven rd) w s))) := by
      change execLddf rd rs1 op2 s = _
      rw [execLddf, hasi, pairRegister_ready hpair]
      exact fpLoadAccess_passes hr (.inr rfl) hp _
    exact ⟨_, hexec, fpLoaded_writeF_pair h rd w lo⟩
  case ldfsr =>
    have hexec : exec (.ldfsr rs1 op2) s =
        .next (advance { s with fpu := { s.fpu with fsr := loadFsr w s.fpu.fsr } }) := by
      change execLdfsr rs1 op2 s = _
      rw [execLdfsr, hasi]
      exact fpLoadAccess_passes hr (.inl rfl) hp _
    exact ⟨_, hexec, fpLoaded_loadFsr h w⟩

end Sys2Proof.Proofs

/-! The atomic load-stores: a store made while the bus is held, then the write of r[rd] (R240 to R245). -/

namespace Sys2Proof.Proofs

open Sys2Proof.Machine Sys2Proof.Laws

section
variable {s u : State} {asi : Asi} {ea : Word}

/-- AtomicBegin changes no byte, no device and no stale word, so a store made under it is a store made before it. -/
theorem bytesStored_of_atomicBegin {bytes : List Byte} (h : BytesStored asi ea bytes (atomicBegin s) u) :
    BytesStored asi ea bytes s u :=
  ⟨h.stored, h.frame, h.stale⟩

/-- A store between AtomicBegin and AtomicEnd, then a write of r[rd]: the effect of the one and of the other. -/
theorem atomicEffect_of_stored {bytes : List Byte} (h : Settled s) (hdelays : u.delays = s.delays)
    (hstore : Stored asi ea bytes (atomicBegin s) (advance u)) (rd : RegNum) (v : Word) :
    AtomicEffect rd v asi ea bytes s (advance (writeReg .rd rd v (atomicEnd u))) := by
  have hu : Settled (atomicEnd u) := by simpa only [Settled, atomicEnd, hdelays] using h
  have hwrite := integerEffect_writeReg hu rd v
  obtain ⟨hquiet, hunits, hbytes⟩ := hstore
  have hregs : u.regs = s.regs := hquiet.regs
  have hpsr : u.psr = s.psr := hquiet.psr
  exact
    { regs := fun k => by simpa [hregs, hpsr] using hwrite.regs k
      psr := hwrite.psr.trans hpsr
      y := hwrite.y.trans hquiet.y
      wim := hwrite.special.wim.trans hquiet.special.wim
      tbr := hwrite.special.tbr.trans hquiet.special.tbr
      iccr := hwrite.special.iccr.trans hquiet.special.iccr
      diag := hwrite.special.diag.trans hquiet.special.diag
      annul := hwrite.special.annul.trans hquiet.special.annul
      mode := hwrite.special.mode.trans hquiet.special.mode
      busLock := hwrite.special.busLock
      inputs := hwrite.special.inputs.trans hquiet.special.inputs
      cfg := hwrite.special.cfg.trans hquiet.special.cfg
      units := ⟨hwrite.units.fpu.trans hunits.fpu, hwrite.units.cp.trans hunits.cp⟩
      memory := bytesStored_of_same (bytesStored_of_atomicBegin hbytes) (by simp) (by simp)
      advanced := ⟨by simpa using hquiet.advanced.pc, by simpa using hquiet.advanced.npc⟩
      settled := hwrite.settled }

/-- LDSTUB once its access is permitted, in any space (R242). -/
theorem loadStoreByte_effect (h : Settled s) (hm : MemoryCanonical s) (hp : AccessPermitted .atomic 1 asi ea s)
    (rd : RegNum) :
    ∃ t, loadStoreByte asi ea rd s = .next t ∧
      AtomicEffect rd ((loadByte false asi ea s).zeroExtend 32) asi ea [0xFF#8] s t := by
  have hstore := stored_storeByte (s := atomicBegin s) h hm asi ea 0xFF#8
  exact ⟨_, checkedAccess_passes (by decide) hp _, atomicEffect_of_stored h (by simp) hstore rd _⟩

/-- SWAP once its access is permitted, in any space: the word stored is r[rd] as it was before (R244). -/
theorem swapWord_effect (h : Settled s) (hm : MemoryCanonical s) (hp : AccessPermitted .atomic 4 asi ea s)
    (rd : RegNum) :
    ∃ t, swapWord asi ea rd s = .next t ∧
      AtomicEffect rd (loadWord false asi ea s) asi ea (bytesOfWord (readRegIn s.psr.cwp rd s)) s t := by
  have hsource : swapSource rd s = readRegIn s.psr.cwp rd s := readReg_settled h .rdStored rd
  have hstore := stored_storeWord (s := atomicBegin s) h hm asi hp.1 (swapSource rd s)
  rw [← hsource]
  exact ⟨_, checkedAccess_passes (by decide) hp _, atomicEffect_of_stored h (by simp) hstore rd _⟩

end

/-- Settles O28: each form is the atomic access of R242 or R244 in its space, once the privilege check has passed. -/
theorem atomicEffects : Obligations.AtomicEffects := by
  intro s rd rs1 rs2 op2 asi h hm word new
  refine ⟨?ordinary, fun hs => ?alternate⟩
  case ordinary =>
    intro ea dasi
    have hasi : dataSpace s = dasi := dataSpace_mode h
    refine ⟨fun hp => ?ldstub, fun hp => ?swap⟩
    case ldstub =>
      change ∃ t, execLdstub rd rs1 op2 s = _ ∧ _
      rw [execLdstub, hasi]
      exact loadStoreByte_effect h hm hp rd
    case swap =>
      change ∃ t, execSwap rd rs1 op2 s = _ ∧ _
      rw [execSwap, hasi]
      exact swapWord_effect h hm hp rd
  case alternate =>
    intro ea
    have hpriv : privileged s = true := (privileged_settled h).trans hs
    refine ⟨fun hp => ?ldstuba, fun hp => ?swapa⟩
    case ldstuba =>
      change ∃ t, privilegedForm false s (loadStoreByte asi ea rd s) = _ ∧ _
      rw [privilegedForm_supervisor hpriv]
      exact loadStoreByte_effect h hm hp rd
    case swapa =>
      change ∃ t, privilegedForm false s (swapWord asi ea rd s) = _ ∧ _
      rw [privilegedForm_supervisor hpriv]
      exact swapWord_effect h hm hp rd

end Sys2Proof.Proofs

/-! The operands, and the add, subtract and logical instructions: results and flags as arithmetic (R251 to R281). -/

namespace Sys2Proof.Proofs

open Sys2Proof.Machine Sys2Proof.Laws

/-! ### The operands (R11, R160, R285) -/

/-- Settles O13: every slot reads the window CWP, and the rest is the arithmetic of the operand forms. -/
theorem operandsRead : Obligations.OperandsRead := by
  intro s rs1 rs2 k c h
  have hcount : shiftCount (.reg rs2) s = (readRegIn s.psr.cwp rs2 s).toNat % 32 := by
    rw [shiftCount, readReg_settled h, BitVec.extractLsb'_toNat, Nat.shiftRight_zero]
  exact ⟨readReg_settled h .rs1 rs1, readReg_settled h .rs2 rs2, BitVec.toInt_signExtend_of_le (by decide),
    fun op2 => BitVec.toNat_add _ _, rfl, hcount, rfl⟩

/-! ### The end of an instruction that writes r[rd] and icc (R255) -/

section
variable {s : State}

theorem settled_setIcc (h : Settled s) (icc : Icc) : Settled (setIcc icc s) := by
  obtain ⟨-, hrest⟩ := h
  exact ⟨rfl, hrest⟩

/-- r[rd] and icc receive values, and nothing else changes but pc and npc. -/
theorem integerEffect_setIcc (h : Settled s) (rd : RegNum) (v : Word) (icc : Icc) :
    IntegerEffect rd v icc s.y s (advance (setIcc icc (writeReg .rd rd v s))) where
  regs k := by simpa using regWritten_writeReg h .rd rd v k
  psr := by simp
  y := by simp
  special := ⟨by simp, by simp, by simp, by simp, by simp, by simp, by simp, by simp, by simp⟩
  units := ⟨by simp, by simp⟩
  memory := ⟨fun _ _ => readByte_of_mem (by simp) _ _, by simp⟩
  advanced := ⟨by simp, by simp⟩
  settled := settled_tick (settled_setIcc h icc) (by simp)

theorem writeResultCc_effect (h : Settled s) (rd : RegNum) (v : Word) (icc : Icc) :
    ∃ t, writeResultCc rd v icc s = .next t ∧ IntegerEffect rd v icc s.y s t :=
  ⟨_, rfl, integerEffect_setIcc h rd v icc⟩

theorem carryIn_settled (h : Settled s) : carryIn s = boolWord s.psr.icc.c := by
  rw [carryIn, iccInUse_settled h]

end

/-! ### The printed formulas of the flags, as arithmetic (R252 to R254) -/

theorem boolWord_eq_ofNat (c : Bool) : boolWord c = BitVec.ofNat 32 (if c then 1 else 0) := by
  cases c <;> rfl

/-- A sum with a carry in, as one number. -/
theorem add_add_ofNat (a b : Word) (c : Nat) :
    a + b + BitVec.ofNat 32 c = BitVec.ofNat 32 (a.toNat + b.toNat + c) := by
  simp [BitVec.ofNat_add]

/-- A difference with a borrow in, as one number. -/
theorem sub_sub_ofNat (a b : Word) (c : Nat) :
    a - b - BitVec.ofNat 32 c = BitVec.ofInt 32 (a.toNat - b.toNat - c) := by
  simp [Int.sub_eq_add_neg, BitVec.sub_eq_add_neg, BitVec.ofInt_add, BitVec.ofInt_neg]

/-- A difference, as one number. -/
theorem sub_eq_ofInt (a b : Word) : a - b = BitVec.ofInt 32 (a.toNat - b.toNat) := by
  simpa using sub_sub_ofNat a b 0

section
variable {a b r : Word} {c : Nat}

theorem addOverflow_eq (hc : c ≤ 1) (hr : r.toNat = (a.toNat + b.toNat + c) % 2 ^ 32) :
    addOverflow a b r = !fitsSigned (a.toInt + b.toInt + c) := by
  have ha := a.isLt
  have hb := b.isLt
  rw [Bool.eq_iff_iff]
  simp only [addOverflow, fitsSigned, BitVec.msb_eq_decide, BitVec.toInt_eq_toNat_cond, Bool.or_eq_true,
    Bool.and_eq_true, Bool.not_eq_true', Bool.and_eq_false_iff, decide_eq_true_eq, decide_eq_false_iff_not]
  omega

theorem addCarry_eq (hc : c ≤ 1) (hr : r.toNat = (a.toNat + b.toNat + c) % 2 ^ 32) :
    addCarry a b r = decide (2 ^ 32 ≤ a.toNat + b.toNat + c) := by
  have ha := a.isLt
  have hb := b.isLt
  rw [Bool.eq_iff_iff]
  simp only [addCarry, BitVec.msb_eq_decide, Bool.or_eq_true, Bool.and_eq_true, Bool.not_eq_true',
    decide_eq_true_eq, decide_eq_false_iff_not]
  omega

theorem subOverflow_eq (hc : c ≤ 1) (hr : (r.toNat : Int) = (a.toNat - b.toNat - c) % 2 ^ 32) :
    subOverflow a b r = !fitsSigned (a.toInt - b.toInt - c) := by
  have ha := a.isLt
  have hb := b.isLt
  rw [Bool.eq_iff_iff]
  simp only [subOverflow, fitsSigned, BitVec.msb_eq_decide, BitVec.toInt_eq_toNat_cond, Bool.or_eq_true,
    Bool.and_eq_true, Bool.not_eq_true', Bool.and_eq_false_iff, decide_eq_true_eq, decide_eq_false_iff_not]
  omega

theorem subBorrow_eq (hc : c ≤ 1) (hr : (r.toNat : Int) = (a.toNat - b.toNat - c) % 2 ^ 32) :
    subBorrow a b r = decide (a.toNat < b.toNat + c) := by
  have ha := a.isLt
  have hb := b.isLt
  rw [Bool.eq_iff_iff]
  simp only [subBorrow, BitVec.msb_eq_decide, Bool.or_eq_true, Bool.and_eq_true, Bool.not_eq_true',
    decide_eq_true_eq, decide_eq_false_iff_not]
  omega

/-- icc_add of a sum with a carry in `c` (R252). -/
theorem iccAdd_eq (hc : c ≤ 1) (hr : r = BitVec.ofNat 32 (a.toNat + b.toNat + c)) :
    iccAdd a b r = { n := r.getLsbD 31, z := decide (r = 0#32), v := !fitsSigned (a.toInt + b.toInt + c)
                     c := decide (2 ^ 32 ≤ a.toNat + b.toNat + c) } := by
  have hsum : r.toNat = (a.toNat + b.toNat + c) % 2 ^ 32 := by rw [hr, BitVec.toNat_ofNat]
  rw [iccAdd, addOverflow_eq hc hsum, addCarry_eq hc hsum, BitVec.msb_eq_getLsbD_last]
  rfl

/-- icc_sub of a difference with a borrow in `c` (R253). -/
theorem iccSub_eq (hc : c ≤ 1) (hr : r = BitVec.ofInt 32 (a.toNat - b.toNat - c)) :
    iccSub a b r = { n := r.getLsbD 31, z := decide (r = 0#32), v := !fitsSigned (a.toInt - b.toInt - c)
                     c := decide (a.toNat < b.toNat + c) } := by
  have hdiff : (r.toNat : Int) = (a.toNat - b.toNat - c) % 2 ^ 32 := by
    rw [hr, BitVec.toNat_ofInt]
    omega
  rw [iccSub, subOverflow_eq hc hdiff, subBorrow_eq hc hdiff, BitVec.msb_eq_getLsbD_last]
  rfl

/-- icc_add of a sum with no carry in (R252). -/
theorem iccAdd_add (a b : Word) :
    iccAdd a b (a + b) = { n := (a + b).getLsbD 31, z := decide (a + b = 0#32), v := !fitsSigned (a.toInt + b.toInt)
                           c := decide (2 ^ 32 ≤ a.toNat + b.toNat) } := by
  simpa using iccAdd_eq (c := 0) (Nat.zero_le 1) (BitVec.add_def a b)

/-- icc_sub of a difference with no borrow in (R253). -/
theorem iccSub_sub (a b : Word) :
    iccSub a b (a - b) = { n := (a - b).getLsbD 31, z := decide (a - b = 0#32), v := !fitsSigned (a.toInt - b.toInt)
                           c := decide (a.toNat < b.toNat) } := by
  simpa using iccSub_eq (c := 0) (Nat.zero_le 1) (by simpa using sub_eq_ofInt a b)

/-- icc_logic, with the sign as bit 31 (R254). -/
theorem iccLogic_eq (r : Word) :
    iccLogic r = { n := r.getLsbD 31, z := decide (r = 0#32), v := false, c := false } := by
  rw [iccLogic, BitVec.msb_eq_getLsbD_last]
  rfl

end

/-! ### The instructions -/

section
variable {s : State}

/-- As writeResult_effect, for a result given in other terms than the instruction's own. -/
theorem writeResult_effect_of_eq (h : Settled s) (rd : RegNum) {r v : Word} (hv : r = v) :
    ∃ t, writeResult rd r s = .next t ∧ IntegerEffect rd v s.psr.icc s.y s t :=
  hv ▸ writeResult_effect h rd r

/-- As writeResultCc_effect, for a result and flags given in other terms than the instruction's own. -/
theorem writeResultCc_effect_of_eq (h : Settled s) (rd : RegNum) {r v : Word} {f icc : Icc} (hv : r = v)
    (hicc : f = icc) : ∃ t, writeResultCc rd r f s = .next t ∧ IntegerEffect rd v icc s.y s t :=
  hv ▸ hicc ▸ writeResultCc_effect h rd r f

end

/-- Settles O14: each form writes one sum or difference with the carry in as a number, and the printed formulas of its
flags are the exact ones. -/
theorem addSubtractResults : Obligations.AddSubtractResults := by
  intro s rd rs1 op2 h a b c sum sumX diff diffX
  have hc : c ≤ 1 := ite_le_one le_rfl zero_le_one
  have hcarry : carryIn s = BitVec.ofNat 32 c := (carryIn_settled h).trans (boolWord_eq_ofNat _)
  have hsum : a + b = sum := BitVec.add_def a b
  have hdiff : a - b = diff := sub_eq_ofInt a b
  have hsumX : a + b + carryIn s = sumX := hcarry ▸ add_add_ofNat a b c
  have hdiffX : a - b - carryIn s = diffX := hcarry ▸ sub_sub_ofNat a b c
  refine ⟨?add, ?addx, ?sub, ?subx, ?addcc, ?addxcc, ?subcc, ?subxcc⟩
  case add => exact writeResult_effect_of_eq h rd hsum
  case addx => exact writeResult_effect_of_eq h rd hsumX
  case sub => exact writeResult_effect_of_eq h rd hdiff
  case subx => exact writeResult_effect_of_eq h rd hdiffX
  case addcc => exact writeResultCc_effect_of_eq h rd hsum (hsum ▸ iccAdd_add a b)
  case addxcc => exact writeResultCc_effect_of_eq h rd hsumX (hsumX ▸ iccAdd_eq hc hsumX)
  case subcc => exact writeResultCc_effect_of_eq h rd hdiff (hdiff ▸ iccSub_sub a b)
  case subxcc => exact writeResultCc_effect_of_eq h rd hdiffX (hdiffX ▸ iccSub_eq hc hdiffX)

/-- Settles O15: each form is one register write of the operation's result, the cc form with icc_logic of that result;
XNOR is written in the model with the complement of the second operand. -/
theorem logicalResults : Obligations.LogicalResults := by
  intro s rd rs1 op2 h a b logicFlags
  have plain (r : Word) := writeResult_effect h rd r
  have flags (r : Word) := writeResultCc_effect_of_eq h rd (r := r) rfl (iccLogic_eq r)
  have hxnor : ~~~(a ^^^ b) = a ^^^ ~~~b := BitVec.not_xor_right
  rw [hxnor]
  exact ⟨plain (a &&& b), flags (a &&& b), plain (a &&& ~~~b), flags (a &&& ~~~b),
    plain (a ||| b), flags (a ||| b), plain (a ||| ~~~b), flags (a ||| ~~~b),
    plain (a ^^^ b), flags (a ^^^ b), plain (a ^^^ ~~~b), flags (a ^^^ ~~~b)⟩

end Sys2Proof.Proofs

/-! Multiply, multiply step, divide and tagged arithmetic: results and flags as arithmetic (R311 to R334), and the traps
of a value and of a window. -/

namespace Sys2Proof.Proofs

open Sys2Proof.Machine Sys2Proof.Laws

/-! ### The end of an instruction that writes r[rd], icc and Y (R311, R317, R320) -/

section
variable {s : State}

/-- Writing the value that icc has changes nothing, with no write of icc under way. -/
theorem setIcc_self (h : s.delays.psr.icc = false) : setIcc s.psr.icc s = s := by
  rw [setIcc, ← h]

theorem settled_setY (h : Settled s) (y : Word) : Settled (setY y s) := by
  obtain ⟨h1, h2, h3, h4, h5, h6, h7, h8, h9, h10, -, hrest⟩ := h
  exact ⟨h1, h2, h3, h4, h5, h6, h7, h8, h9, h10, rfl, hrest⟩

/-- r[rd], Y and icc receive values, and nothing else changes but pc and npc. -/
theorem integerEffect_setY_setIcc (h : Settled s) (rd : RegNum) (v y : Word) (icc : Icc) :
    IntegerEffect rd v icc y s (advance (setIcc icc (setY y (writeReg .rd rd v s)))) where
  regs k := by simpa using regWritten_writeReg h .rd rd v k
  psr := by simp
  y := by simp
  special := ⟨by simp, by simp, by simp, by simp, by simp, by simp, by simp, by simp, by simp⟩
  units := ⟨by simp, by simp⟩
  memory := ⟨fun _ _ => readByte_of_mem (by simp) _ _, by simp⟩
  advanced := ⟨by simp, by simp⟩
  settled := settled_tick (settled_setIcc (settled_setY h y) icc) (by simp)

/-- r[rd] and Y receive values, and nothing else changes but pc and npc. -/
theorem integerEffect_setY (h : Settled s) (rd : RegNum) (v y : Word) :
    IntegerEffect rd v s.psr.icc y s (advance (setY y (writeReg .rd rd v s))) := by
  have hkeep : setIcc s.psr.icc (setY y (writeReg .rd rd v s)) = setY y (writeReg .rd rd v s) := by
    simpa using setIcc_self (s := setY y (writeReg .rd rd v s)) (by simpa using h.1)
  simpa only [hkeep] using integerEffect_setY_setIcc h rd v y s.psr.icc

end

/-! ### Multiply (R311 to R316) -/

/-- The two words of a product, put together (R311). -/
theorem productHigh_append_productLow (p : BitVec 64) : productHigh p ++ productLow p = p :=
  BitVec.extractLsb'_append_extractLsb'

/-- No unsigned product exceeds 64 bits. -/
theorem toNat_unsignedProduct (a b : Word) : (unsignedProduct a b).toNat = a.toNat * b.toNat :=
  Nat.mod_eq_of_lt BitVec.toNat_mul_toNat_lt

/-- No signed product exceeds 64 bits. -/
theorem toInt_signedProduct (a b : Word) : (signedProduct a b).toInt = a.toInt * b.toInt := by
  have hlow : -(2 ^ 62) ≤ a.toInt * b.toInt := BitVec.le_toInt_mul_toInt
  have hhigh : a.toInt * b.toInt ≤ 2 ^ 62 := BitVec.toInt_mul_toInt_le
  exact BitVec.toInt_ofInt_eq_self (by decide) (by omega) (by omega)

/-- Settles O17: each form writes the two words of a product that 64 bits hold exactly. -/
theorem multiplyResults : Obligations.MultiplyResults := by
  intro s rd rs1 op2 h a b flags
  have hunsigned : (productHigh (unsignedProduct a b) ++ productLow (unsignedProduct a b)).toNat =
      a.toNat * b.toNat := by
    rw [productHigh_append_productLow, toNat_unsignedProduct]
  have hsigned : (productHigh (signedProduct a b) ++ productLow (signedProduct a b)).toInt =
      a.toInt * b.toInt := by
    rw [productHigh_append_productLow, toInt_signedProduct]
  have plain (p : BitVec 64) : IntegerEffect rd (productLow p) s.psr.icc (productHigh p) s
      (advance (setY (productHigh p) (writeReg .rd rd (productLow p) s))) := integerEffect_setY h rd ..
  have cc (p : BitVec 64) : IntegerEffect rd (productLow p) (flags (productLow p)) (productHigh p) s
      (advance (setIcc (iccLogic (productLow p)) (setY (productHigh p) (writeReg .rd rd (productLow p) s)))) := by
    rw [iccLogic_eq]
    exact integerEffect_setY_setIcc h rd ..
  exact ⟨⟨_, _, _, hunsigned, rfl, plain _⟩, ⟨_, _, _, hunsigned, rfl, cc _⟩,
    ⟨_, _, _, hsigned, rfl, plain _⟩, ⟨_, _, _, hsigned, rfl, cc _⟩⟩

/-- A doubleword fits a signed word exactly when its high word repeats the sign of its low one (R316). -/
theorem fitsSigned_append (y lo : Word) :
    fitsSigned (y ++ lo).toInt = true ↔ y = if lo.getLsbD 31 then 0xFFFFFFFF#32 else 0#32 := by
  have hy := y.isLt
  have hlo := lo.isLt
  have hmsb : lo.getLsbD 31 = decide (2 ^ 31 ≤ lo.toNat) := BitVec.msb_eq_decide lo
  rw [BitVec.toInt_append, if_neg (by decide), hmsb, ← BitVec.toNat_inj, apply_ite BitVec.toNat]
  simp only [fitsSigned, BitVec.toInt_eq_toNat_cond, Bool.and_eq_true, decide_eq_true_eq, BitVec.toNat_ofNat]
  split_ifs <;> omega

/-- Settles O18: the product is Y ++ r[rd]. -/
theorem signedProductFits : Obligations.SignedProductFits := by
  intro s rd rs1 op2 h hrd
  obtain ⟨-, -, ⟨t, y, lo, hproduct, hexec, heffect⟩, -⟩ := multiplyResults s rd rs1 op2 h
  refine ⟨t, hexec, ?_⟩
  rw [readRegIn_of_integerEffect heffect hrd, heffect.y, ← hproduct]
  exact fitsSigned_append y lo

/-! ### Multiply step (R317) -/

/-- A one-bit shift to the right, with the bit that comes in at the top as a number. -/
theorem ofBool_append_shifted (c : Bool) (x : Word) :
    BitVec.ofBool c ++ x.extractLsb' 1 31 = BitVec.ofNat 32 (x.toNat / 2 + if c then 2 ^ 31 else 0) := by
  have hx := x.isLt
  apply BitVec.eq_of_toNat_eq
  rw [BitVec.toNat_append, ← Nat.shiftLeft_add_eq_or_of_lt (BitVec.isLt _), BitVec.extractLsb'_toNat,
    Nat.shiftRight_one, BitVec.toNat_ofNat, Nat.shiftLeft_eq]
  cases c <;> simp <;> omega

/-- The first operand of the step's addition, with the sign that comes in as a number. -/
theorem stepOperand1_eq (icc : Icc) (a : Word) :
    stepOperand1 icc a = BitVec.ofNat 32 (a.toNat / 2 + if icc.n ≠ icc.v then 2 ^ 31 else 0) := by
  rw [stepOperand1, ofBool_append_shifted]
  simp

/-- The second operand of the step's addition, by the parity of the multiplier. -/
theorem stepOperand2_eq (y b : Word) : stepOperand2 y b = if y.toNat % 2 = 0 then 0#32 else b := by
  have hbit : y.getLsbD 0 = decide (y.toNat % 2 = 1) := by simp [BitVec.getLsbD]
  rw [stepOperand2, hbit]
  rcases Nat.mod_two_eq_zero_or_one y.toNat with hy | hy <;> simp [hy]

/-- The multiplier after the step, with the bit that comes in as a number. -/
theorem stepY_eq (a y : Word) :
    stepY a y = BitVec.ofNat 32 (y.toNat / 2 + if a.toNat % 2 = 1 then 2 ^ 31 else 0) := by
  have hbit : a.extractLsb' 0 1 = BitVec.ofBool (decide (a.toNat % 2 = 1)) := by
    apply BitVec.eq_of_toNat_eq
    rcases Nat.mod_two_eq_zero_or_one a.toNat with ha | ha <;> simp [BitVec.extractLsb'_toNat, ha]
  rw [stepY, hbit, ofBool_append_shifted]
  simp

/-- Settles O19: the operands of the step's addition and the new Y are shifts, and the flags are those of an
addition. -/
theorem multiplyStepResult : Obligations.MultiplyStepResult := by
  intro s rd rs1 op2 h a x b r
  have hx : stepOperand1 (iccInUse s) a = x := by rw [iccInUse_settled h, stepOperand1_eq]
  have hb : stepOperand2 (yInUse s) (operand2 op2 s) = b := by rw [yInUse_settled h, stepOperand2_eq]
  have hexec : exec (.mulscc rd rs1 op2) s =
      .next (advance (setIcc (iccAdd x b r) (setY (stepY a s.y) (writeReg .rd rd r s)))) := by
    change execMulscc rd rs1 op2 s = _
    simp only [execMulscc]
    rw [hx, hb, yInUse_settled h]
  rw [← stepY_eq, ← iccAdd_add]
  exact ⟨_, hexec, integerEffect_setY_setIcc h rd ..⟩

/-! ### Divide (R320 to R324) -/

/-- The unsigned quotient, its dividend as a number (R320). -/
theorem unsignedQuotient_eq (y a b : Word) :
    unsignedQuotient y a b = (y.toNat * 2 ^ 32 + a.toNat) / b.toNat := by
  rw [unsignedQuotient, BitVec.toNat_append, ← Nat.shiftLeft_add_eq_or_of_lt a.isLt, Nat.shiftLeft_eq]

/-- An unsigned quotient exceeds a word exactly when Y reaches the divisor (R320). -/
theorem unsignedOverflow_eq (y a : Word) {b : Word} (hb : b ≠ 0#32) :
    unsignedOverflow (unsignedQuotient y a b) = decide (b.toNat ≤ y.toNat) := by
  have ha := a.isLt
  have hpos : 0 < b.toNat := Nat.pos_of_ne_zero fun h0 => hb (BitVec.eq_of_toNat_eq h0)
  have hdiv : 2 ^ 32 ≤ unsignedQuotient y a b ↔ 2 ^ 32 * b.toNat ≤ y.toNat * 2 ^ 32 + a.toNat := by
    rw [unsignedQuotient_eq, Nat.le_div_iff_mul_le hpos]
  rw [unsignedOverflow, decide_eq_decide]
  omega

theorem toNat_clampUnsigned (q : Nat) : (clampUnsigned q).toNat = min q (2 ^ 32 - 1) := by
  rw [clampUnsigned]
  split_ifs with hq
  · have hlt : 2 ^ 32 - 1 < q := of_decide_eq_true hq
    exact (min_eq_right hlt.le).symm
  · have hle : q ≤ 2 ^ 32 - 1 := by simpa [unsignedOverflow] using hq
    rw [BitVec.toNat_ofNat, Nat.mod_eq_of_lt (by omega), min_eq_left hle]

theorem toInt_clampSigned (q : Int) : (clampSigned q).toInt = max (-(2 ^ 31)) (min q (2 ^ 31 - 1)) := by
  rw [clampSigned]
  split_ifs with hhigh hlow
  · rw [min_eq_right hhigh.le]
    rfl
  · rw [max_eq_left (by omega)]
    rfl
  · rw [BitVec.toInt_ofInt_eq_self (by decide) (by omega) (by omega)]
    omega

theorem signedOverflow_eq (q : Int) : signedOverflow q = !fitsSigned q := by
  rw [Bool.eq_iff_iff]
  simp only [signedOverflow, fitsSigned, Bool.or_eq_true, Bool.not_eq_true', Bool.and_eq_false_iff,
    decide_eq_true_eq, decide_eq_false_iff_not]
  omega

/-- The flags of a divide, with the sign as bit 31 (R322, R324). -/
theorem iccDivide_eq (r : Word) (overflow : Bool) :
    iccDivide r overflow = { n := r.getLsbD 31, z := decide (r = 0#32), v := overflow, c := false } := by
  rw [iccDivide, BitVec.msb_eq_getLsbD_last]
  rfl

section
variable {s : State}

theorem writeQuotient_effect (h : Settled s) (rd : RegNum) (q : Word) :
    IntegerEffect rd q s.psr.icc (yAfterDivide s) s (advance (writeQuotient rd q s)) :=
  integerEffect_setY h rd q _

theorem writeQuotient_setIcc_effect (h : Settled s) (rd : RegNum) (q : Word) (icc : Icc) :
    IntegerEffect rd q icc (yAfterDivide s) s (advance (setIcc icc (writeQuotient rd q s))) :=
  integerEffect_setY_setIcc h rd q _ icc

variable {op2 : RegImm}

/-! #### The divides whose divisor is not 0 (R321 to R324) -/

theorem exec_udiv_of_ne_zero (h : Settled s) (hb : operand2 op2 s ≠ 0#32) (rd rs1 : RegNum) :
    exec (.udiv rd rs1 op2) s = .next (advance (writeQuotient rd
      (clampUnsigned (unsignedQuotient s.y (operand1 rs1 s) (operand2 op2 s))) s)) := by
  rw [← yInUse_settled h]
  exact if_neg hb

theorem exec_udivcc_of_ne_zero (h : Settled s) (hb : operand2 op2 s ≠ 0#32) (rd rs1 : RegNum) :
    let q := unsignedQuotient s.y (operand1 rs1 s) (operand2 op2 s)
    exec (.udivcc rd rs1 op2) s = .next (advance (setIcc (iccDivide (clampUnsigned q) (unsignedOverflow q))
      (writeQuotient rd (clampUnsigned q) s))) := by
  rw [← yInUse_settled h]
  exact if_neg hb

theorem exec_sdiv_of_ne_zero (h : Settled s) (hb : operand2 op2 s ≠ 0#32) (rd rs1 : RegNum) :
    exec (.sdiv rd rs1 op2) s = .next (advance (writeQuotient rd
      (clampSigned (signedQuotient s.y (operand1 rs1 s) (operand2 op2 s))) s)) := by
  rw [← yInUse_settled h]
  exact if_neg hb

theorem exec_sdivcc_of_ne_zero (h : Settled s) (hb : operand2 op2 s ≠ 0#32) (rd rs1 : RegNum) :
    let q := signedQuotient s.y (operand1 rs1 s) (operand2 op2 s)
    exec (.sdivcc rd rs1 op2) s = .next (advance (setIcc (iccDivide (clampSigned q) (signedOverflow q))
      (writeQuotient rd (clampSigned q) s))) := by
  rw [← yInUse_settled h]
  exact if_neg hb

end

/-- Settles O20: each form writes the clamped quotient, and its overflow test is the exact one. -/
theorem divideResults : Obligations.DivideResults := by
  intro s rd rs1 op2 h hb a b u q
  have hquotient : unsignedQuotient s.y a b = u := unsignedQuotient_eq s.y a b
  have hunsigned : (clampUnsigned (unsignedQuotient s.y a b)).toNat = min u (2 ^ 32 - 1) := by
    rw [toNat_clampUnsigned, hquotient]
  have hsigned : (clampSigned q).toInt = max (-(2 ^ 31)) (min q (2 ^ 31 - 1)) := toInt_clampSigned q
  refine ⟨⟨_, _, _, hunsigned, exec_udiv_of_ne_zero h hb rd rs1, writeQuotient_effect h rd _⟩,
    ⟨_, _, yAfterDivide s, hunsigned, exec_udivcc_of_ne_zero h hb rd rs1, ?udivcc⟩,
    ⟨_, _, _, hsigned, exec_sdiv_of_ne_zero h hb rd rs1, writeQuotient_effect h rd _⟩,
    ⟨_, _, yAfterDivide s, hsigned, exec_sdivcc_of_ne_zero h hb rd rs1, ?sdivcc⟩⟩
  case udivcc =>
    rw [← unsignedOverflow_eq s.y a hb, ← iccDivide_eq]
    exact writeQuotient_setIcc_effect h rd _ _
  case sdivcc =>
    rw [← signedOverflow_eq, ← iccDivide_eq]
    exact writeQuotient_setIcc_effect h rd _ _

/-! ### Tagged arithmetic (R330 to R334) -/

/-- The tag of a word is its remainder by 4 (R330). -/
theorem tag_ne_zero_iff (a : Word) : (a.extractLsb' 0 2 != 0#2) = true ↔ a.toNat % 4 ≠ 0 := by
  simp [← BitVec.toNat_inj, BitVec.extractLsb'_toNat]

theorem tagged_eq (a b : Word) : tagged a b = decide (a.toNat % 4 ≠ 0 ∨ b.toNat % 4 ≠ 0) := by
  rw [Bool.eq_iff_iff, tagged, Bool.or_eq_true, tag_ne_zero_iff, tag_ne_zero_iff, decide_eq_true_iff]

theorem taggedAddOverflow_eq (a b : Word) : taggedAddOverflow a b (a + b) =
    (decide (a.toNat % 4 ≠ 0 ∨ b.toNat % 4 ≠ 0) || !fitsSigned (a.toInt + b.toInt)) := by
  have hv : addOverflow a b (a + b) = !fitsSigned (a.toInt + b.toInt) := congrArg Icc.v (iccAdd_add a b)
  rw [taggedAddOverflow, hv, tagged_eq, Bool.or_comm]

theorem taggedSubOverflow_eq (a b : Word) : taggedSubOverflow a b (a - b) =
    (decide (a.toNat % 4 ≠ 0 ∨ b.toNat % 4 ≠ 0) || !fitsSigned (a.toInt - b.toInt)) := by
  have hv : subOverflow a b (a - b) = !fitsSigned (a.toInt - b.toInt) := congrArg Icc.v (iccSub_sub a b)
  rw [taggedSubOverflow, hv, tagged_eq, Bool.or_comm]

/-- Settles O21: the tagged forms are ADDcc and SUBcc with a v of their own. -/
theorem taggedResults : Obligations.TaggedResults := by
  intro s rd rs1 op2 h a b tag addV subV addFlags subFlags
  have hadd : taggedAddOverflow a b (a + b) = addV := taggedAddOverflow_eq a b
  have hsub : taggedSubOverflow a b (a - b) = subV := taggedSubOverflow_eq a b
  have haddFlags (v : Bool) : { iccAdd a b (a + b) with v := v } = addFlags v := by rw [iccAdd_add]
  have hsubFlags (v : Bool) : { iccSub a b (a - b) with v := v } = subFlags v := by rw [iccSub_sub]
  refine ⟨?taddcc, ?tsubcc, fun hv => ?taddcctv, fun hv => ?tsubcctv⟩
  case taddcc => exact writeResultCc_effect_of_eq h rd rfl (hadd ▸ haddFlags _)
  case tsubcc => exact writeResultCc_effect_of_eq h rd rfl (hsub ▸ hsubFlags _)
  case taddcctv =>
    have hexec : exec (.taddcctv rd rs1 op2) s = writeResultCc rd (a + b) { iccAdd a b (a + b) with v := false } s :=
      if_neg (Bool.eq_false_iff.mp (hadd.trans hv))
    exact hexec ▸ writeResultCc_effect_of_eq h rd rfl (haddFlags false)
  case tsubcctv =>
    have hexec : exec (.tsubcctv rd rs1 op2) s = writeResultCc rd (a - b) { iccSub a b (a - b) with v := false } s :=
      if_neg (Bool.eq_false_iff.mp (hsub.trans hv))
    exact hexec ▸ writeResultCc_effect_of_eq h rd rfl (hsubFlags false)

/-! ### The traps of a value and of a window (R320, R333, R334, R350, R351) -/

/-- A divide tests its divisor before anything else (R320 step 1). -/
theorem exec_divide_zero {s : State} {rd rs1 : RegNum} {op2 : RegImm} (hb : operand2 op2 s = 0#32) :
    ∀ i ∈ [Instr.udiv rd rs1 op2, .udivcc rd rs1 op2, .sdiv rd rs1 op2, .sdivcc rd rs1 op2],
      exec i s = raise .divisionByZero s := by
  simp only [List.forall_mem_cons, List.not_mem_nil, false_imp_iff, implies_true, and_true]
  exact ⟨if_pos hb, if_pos hb, if_pos hb, if_pos hb⟩

/-- Settles O22: each instruction finds the condition of its trap in its first test. -/
theorem valueAndWindowTraps : Obligations.ValueAndWindowTraps := by
  intro s rd rs1 op2 h a b
  refine ⟨fun hb i hi => ?divide, fun hv => ?taddcctv, fun hv => ?tsubcctv, fun hwim => ?save, fun hwim => ?restore⟩
  case divide => exact raises_of_exec h (exec_divide_zero hb i hi)
  case taddcctv =>
    have hoverflow : taggedAddOverflow a b (a + b) = true := by
      simpa [taggedAddOverflow_eq, or_assoc] using hv
    exact raises_of_exec h (if_pos hoverflow)
  case tsubcctv =>
    have hoverflow : taggedSubOverflow a b (a - b) = true := by
      simpa [taggedSubOverflow_eq, or_assoc] using hv
    exact raises_of_exec h (if_pos hoverflow)
  case save =>
    have hw : windowInvalid (windowInUse s - 1#3) s = true := by
      rw [windowInvalid_settled h, windowInUse_settled h, hwim]
    exact raises_of_exec h (if_pos hw)
  case restore =>
    have hw : windowInvalid (windowInUse s + 1#3) s = true := by
      rw [windowInvalid_settled h, windowInUse_settled h, hwim]
    exact raises_of_exec h (if_pos hw)

end Sys2Proof.Proofs

/-! The words that the spec prints beside their assembler forms. -/

namespace Sys2Proof.Proofs

open Sys2Proof.Machine Sys2Proof.Laws

theorem decode_of_encode_eq {i : Instr} {w : Word} (hw : encode i = w) (hi : i.WellFormed) : decode w = .instr i :=
  hw ▸ decode_encode i hi

/-- Settles O1: each word is the one that the encoder writes for the instruction of its assembler form, so the decoder
reads it back. -/
theorem decodesSpecWords : Obligations.DecodesSpecWords := by
  unfold Obligations.DecodesSpecWords
  and_intros <;> exact decode_of_encode_eq rfl rfl

end Sys2Proof.Proofs

/-! The branches and the comparisons that they test (45_control_transfer.md R341 to R346). -/

namespace Sys2Proof.Proofs

open Sys2Proof.Machine Sys2Proof.Laws

/-! ### The state after a branch (R340, R342) -/

/-- Two zero bits below a displacement multiply it by 4. -/
theorem signExtend_append_two_zeros (d : BitVec 22) : (d ++ 0#2).signExtend 32 = 4#32 * d.signExtend 32 := by
  have hint : (d ++ 0#2).toInt = 4 * d.toInt := by
    rw [BitVec.toInt_append]
    simp
  calc (d ++ 0#2).signExtend 32
    _ = BitVec.ofInt 32 (4 * d.toInt) := congrArg _ hint
    _ = 4#32 * d.signExtend 32 := BitVec.ofInt_mul ..

theorem branchTarget_eq (disp22 : BitVec 22) (s : State) :
    branchTarget disp22 s = s.pc + 4#32 * disp22.signExtend 32 := by
  rw [branchTarget, signExtend_append_two_zeros]

theorem branch_eq_branched (taken a : Bool) (disp22 : BitVec 22) (s : State) :
    branch taken a disp22 s = branched taken false a disp22 s := by
  unfold branch branched
  rw [branchTarget_eq]
  cases taken <;> cases a <;> rfl

theorem branchAlways_eq_branched (a : Bool) (disp22 : BitVec 22) (s : State) :
    branchAlways a disp22 s = branched true true a disp22 s := by
  unfold branchAlways branched
  rw [branchTarget_eq]
  cases a <;> rfl

/-! ### The conditions (R341, R345, R346) -/

/-- The four marks of a row of the tables of R345 and R346 are the codes that its list names. -/
theorem codeIn_eq_decide_mem (codes : List (BitVec 2)) (code : BitVec 2) :
    codeIn (0#2 ∈ codes) (1#2 ∈ codes) (2#2 ∈ codes) (3#2 ∈ codes) code = decide (code ∈ codes) := by
  have hcases : code = 0#2 ∨ code = 1#2 ∨ code = 2#2 ∨ code = 3#2 := by revert code; decide
  rcases hcases with rfl | rfl | rfl | rfl <;> rfl

/-- A branch on a two-bit code that is not the condition 1000. -/
theorem branched_of_codes (codes : List (BitVec 2)) (code : BitVec 2) (a : Bool) (disp22 : BitVec 22) (s : State) :
    branched (decide (code ∈ codes)) false a disp22 s =
      branch (codeIn (0#2 ∈ codes) (1#2 ∈ codes) (2#2 ∈ codes) (3#2 ∈ codes) code) a disp22 s := by
  rw [codeIn_eq_decide_mem, branch_eq_branched]

/-- The condition 1000 names every code. -/
theorem branched_of_all_codes (code : BitVec 2) (a : Bool) (disp22 : BitVec 22) (s : State) :
    branched (decide (code ∈ [0#2, 1#2, 2#2, 3#2])) true a disp22 s = branchAlways a disp22 s := by
  have hmem : code ∈ [0#2, 1#2, 2#2, 3#2] := by revert code; decide
  rw [decide_eq_true hmem, branchAlways_eq_branched]

/-! ### The instructions, before the check of their unit -/

section
variable {s : State} {i : Instr}

/-- A Bicc branches on the icc in use (R343). -/
theorem exec_iccBranch {cond : BitVec 4} {a : Bool} {disp22 : BitVec 22}
    (hi : iccBranch i = some (cond, a, disp22)) :
    exec i s = .next (branched (evalIcc cond (iccInUse s)) (decide (cond = 0b1000#4)) a disp22 s) := by
  cases i with
  | ba => cases hi; exact congrArg Host.Outcome.next (branchAlways_eq_branched ..)
  | bn | be | ble | bl | bleu | bcs | bneg | bvs | bne | bg | bge | bgu | bcc | bpos | bvc =>
    cases hi; exact congrArg Host.Outcome.next (branch_eq_branched ..)
  | _ => exact nomatch hi

/-- An FBfcc branches on fcc, once the FPU lets it run (R345). -/
theorem exec_fccBranch_eq {codes : List (BitVec 2)} {always a : Bool} {disp22 : BitVec 22}
    (hi : fccBranch i = some (codes, always, a, disp22)) :
    exec i s = fpOperate s (.next (branched (decide (s.fpu.fsr.fcc ∈ codes)) always a disp22 s)) := by
  cases i with
  | fba => cases hi; rw [branched_of_all_codes]; rfl
  | fbn | fbne | fblg | fbul | fbl | fbug | fbg | fbu | fbe | fbue | fbge | fbuge | fble | fbule | fbo =>
    cases hi; rw [branched_of_codes]; rfl
  | _ => exact nomatch hi

/-- A CBccc branches on the coprocessor's condition, once the coprocessor lets it run (R346). -/
theorem exec_cccBranch_eq {codes : List (BitVec 2)} {always a : Bool} {disp22 : BitVec 22}
    (hi : cccBranch i = some (codes, always, a, disp22)) :
    exec i s = cpOperate s (.next (branched (decide (s.cp.ccc ∈ codes)) always a disp22 s)) := by
  cases i with
  | cba => cases hi; rw [branched_of_all_codes]; rfl
  | cbn | cb123 | cb12 | cb13 | cb1 | cb23 | cb2 | cb3 | cb0 | cb03 | cb02 | cb023 | cb01 | cb013 | cb012 =>
    cases hi; rw [branched_of_codes]; rfl
  | _ => exact nomatch hi

theorem fpEnabled_ready (h : FpuReady s) : fpEnabled s = true := by
  obtain ⟨hs, hfpu, hef, -⟩ := h
  rw [fpEnabled_settled hs, hfpu, hef]
  rfl

end

/-! ### The branches with their unit ready (R342) -/

/-- Settles O33: with icc settled, the icc in use is the PSR's. -/
theorem biccEffects : Obligations.BiccEffects := by
  intro s i cond a disp22 h hi
  rw [exec_iccBranch hi, iccInUse_settled h]

/-- Settles O34: the check of the FPU passes, and what is left is the branch. -/
theorem fbfccEffects : Obligations.FbfccEffects := by
  intro s i codes always a disp22 h hi
  have henabled := fpEnabled_ready h
  obtain ⟨-, -, -, hmode⟩ := h
  rw [exec_fccBranch_eq hi, fpOperate_ready henabled hmode]

/-- Settles O35: the check of the coprocessor passes, and what is left is the branch. -/
theorem cbcccEffects : Obligations.CbcccEffects := by
  intro s i codes always a disp22 h hi
  have henabled := cpEnabled_ready h
  obtain ⟨-, -, -, hpending⟩ := h
  rw [exec_cccBranch_eq hi, cpOperate_ready henabled hpending]

/-! ### A comparison (R344) -/

section
variable (a b : Word)

theorem iccSub_zero : (iccSub a b (a - b)).z = decide (a = b) := by
  rw [iccSub_sub, decide_eq_decide]
  exact sub_eq_zero

theorem iccSub_borrow : (iccSub a b (a - b)).c = decide (a.toNat < b.toNat) := by
  rw [iccSub_sub]

/-- The sign of the result is that of the exact difference, unless the difference overflows. -/
theorem iccSub_less : ((iccSub a b (a - b)).n ^^ (iccSub a b (a - b)).v) = decide (a.toInt < b.toInt) := by
  have hn : (iccSub a b (a - b)).n = decide ((a.toInt - b.toInt).bmod (2 ^ 32) < 0) := by
    rw [← BitVec.toInt_sub, ← BitVec.msb_eq_toInt]
    rfl
  have hv : (iccSub a b (a - b)).v = !fitsSigned (a.toInt - b.toInt) := congrArg Icc.v (iccSub_sub a b)
  have ha := a.toInt_lt
  have ha' := a.le_toInt
  have hb := b.toInt_lt
  have hb' := b.le_toInt
  rw [hn, hv, fitsSigned]
  grind

/-- The condition tests equality and the strict order (R341). -/
theorem iccSub_lessOrEqual : condLessOrEqual (iccSub a b (a - b)) = decide (a.toInt ≤ b.toInt) := by
  rw [condLessOrEqual, iccSub_zero, iccSub_less, ← Bool.decide_or, decide_eq_decide, le_iff_eq_or_lt,
    BitVec.toInt_inj]

theorem iccSub_lessOrEqualUnsigned : condLessOrEqualUnsigned (iccSub a b (a - b)) = decide (a.toNat ≤ b.toNat) := by
  rw [condLessOrEqualUnsigned, iccSub_borrow, iccSub_zero, ← Bool.decide_or, decide_eq_decide, le_iff_lt_or_eq,
    BitVec.toNat_inj]

end

theorem not_eq_decide {c : Bool} {p q : Prop} [Decidable p] [Decidable q] (hc : c = decide p) (hpq : ¬ p ↔ q) :
    (!c) = decide q := by
  rw [hc, ← decide_not, decide_eq_decide, hpq]

/-- Settles O23: after the comparison five conditions are =, the two < and the two ≤, and the other five are their
negations. -/
theorem compareConditions : Obligations.CompareConditions := by
  intro s rs1 op2 h a b
  obtain ⟨t, hexec, heffect⟩ := writeResultCc_effect h 0#5 (a - b) (iccSub a b (a - b))
  have hicc : t.psr.icc = iccSub a b (a - b) := congrArg Psr.icc heffect.psr
  have hequal := iccSub_zero a b
  have hless := iccSub_less a b
  have hlessOrEqual := iccSub_lessOrEqual a b
  have hlessUnsigned := iccSub_borrow a b
  have hlessOrEqualUnsigned := iccSub_lessOrEqualUnsigned a b
  refine ⟨t, hexec, ?_⟩
  rw [hicc]
  exact ⟨hequal, not_eq_decide hequal Iff.rfl, hless, hlessOrEqual, not_eq_decide hlessOrEqual not_le,
    not_eq_decide hless not_lt, hlessUnsigned, hlessOrEqualUnsigned, not_eq_decide hlessOrEqualUnsigned not_le,
    not_eq_decide hlessUnsigned not_lt⟩

end Sys2Proof.Proofs

/-! The instructions that the decoder reads are well-formed (30_encoding.md section 3). -/

namespace Sys2Proof.Proofs

/-- The instruction that a word is read as, if it is read as one, is well-formed. -/
def ReadsWellFormed (d : Decoded) : Prop := ∀ i : Instr, d = .instr i → i.WellFormed

section
variable {c : Prop} [Decidable c] {d e : Decoded} {i j : Instr}

theorem readsWellFormed_instr (hi : i.WellFormed) : ReadsWellFormed (.instr i) :=
  fun _ h => Decoded.instr.inj h ▸ hi

theorem readsWellFormed_unassigned : ReadsWellFormed .unassigned := fun _ h => Decoded.noConfusion h

theorem readsWellFormed_unimplementedFpop : ReadsWellFormed .unimplementedFpop := fun _ h => Decoded.noConfusion h

/-- A row that hands the word to another table, and the rows below it. -/
theorem readsWellFormed_ite (hd : ReadsWellFormed d) (he : ReadsWellFormed e) :
    ReadsWellFormed (if c then d else e) := by
  split
  · exact hd
  · exact he

/-- A row that names an instruction, and the rows below it. -/
theorem readsWellFormed_row (hi : i.WellFormed) (he : ReadsWellFormed e) :
    ReadsWellFormed (if c then .instr i else e) :=
  readsWellFormed_ite (readsWellFormed_instr hi) he

/-- A row of a table that names an instruction for every word, as the branches do by their cond field. -/
theorem wellFormed_ite (hi : i.WellFormed) (hj : j.WellFormed) : (if c then i else j).WellFormed := by
  split
  · exact hi
  · exact hj

end

/-! ### The two rows that a register number divides -/

/-- RDASR is read only where rs1 is not 0 (R382). -/
theorem wellFormed_rdy_or_rdasr (rd rs1 : RegNum) : (if rs1 = 0#5 then Instr.rdy rd else .rdasr rd rs1).WellFormed := by
  split
  next => rfl
  next h => exact if_neg h

/-- WRASR is read only where rd is not 0 (R392). -/
theorem wellFormed_wry_or_wrasr (rd rs1 : RegNum) (b : RegImm) :
    (if rd = 0#5 then Instr.wry rs1 b else .wrasr rd rs1 b).WellFormed := by
  split
  next => rfl
  next h => exact if_neg h

/-! ### The tables: a row that names another instruction needs no check -/

theorem wellFormed_decodeBicc (w : Word) : (decodeBicc w).WellFormed := by
  unfold decodeBicc
  repeat' apply wellFormed_ite
  all_goals rfl

theorem wellFormed_decodeFbfcc (w : Word) : (decodeFbfcc w).WellFormed := by
  unfold decodeFbfcc
  repeat' apply wellFormed_ite
  all_goals rfl

theorem wellFormed_decodeCbccc (w : Word) : (decodeCbccc w).WellFormed := by
  unfold decodeCbccc
  repeat' apply wellFormed_ite
  all_goals rfl

theorem wellFormed_decodeTicc (w : Word) : (decodeTicc w).WellFormed := by
  unfold decodeTicc
  repeat' apply wellFormed_ite
  all_goals rfl

theorem readsWellFormed_decodeFpop1 (w : Word) : ReadsWellFormed (decodeFpop1 w) := by
  unfold decodeFpop1
  repeat' refine readsWellFormed_row rfl ?_
  exact readsWellFormed_unimplementedFpop

theorem readsWellFormed_decodeFpop2 (w : Word) : ReadsWellFormed (decodeFpop2 w) := by
  unfold decodeFpop2
  repeat' refine readsWellFormed_row rfl ?_
  exact readsWellFormed_unimplementedFpop

theorem readsWellFormed_decodeMemory (w : Word) : ReadsWellFormed (decodeMemory w) := by
  unfold decodeMemory
  repeat' refine readsWellFormed_row rfl ?_
  exact readsWellFormed_unassigned

theorem readsWellFormed_decodeFormat2 (w : Word) : ReadsWellFormed (decodeFormat2 w) :=
  readsWellFormed_row rfl <|
  readsWellFormed_row (wellFormed_decodeBicc w) <|
  readsWellFormed_row rfl <|
  readsWellFormed_row (wellFormed_decodeFbfcc w) <|
  readsWellFormed_row (wellFormed_decodeCbccc w) readsWellFormed_unassigned

/-- The rows in order: up to RDASR, to WRASR, to the FPops, to Ticc, and the rest. -/
theorem readsWellFormed_decodeArith (w : Word) : ReadsWellFormed (decodeArith w) := by
  unfold decodeArith
  repeat' refine readsWellFormed_row rfl ?_
  refine readsWellFormed_row (wellFormed_rdy_or_rdasr _ _) ?_
  repeat' refine readsWellFormed_row rfl ?_
  refine readsWellFormed_row (wellFormed_wry_or_wrasr _ _ _) ?_
  repeat' refine readsWellFormed_row rfl ?_
  refine readsWellFormed_ite (readsWellFormed_decodeFpop1 w) ?_
  refine readsWellFormed_ite (readsWellFormed_decodeFpop2 w) ?_
  repeat' refine readsWellFormed_row rfl ?_
  refine readsWellFormed_row (wellFormed_decodeTicc w) ?_
  repeat' refine readsWellFormed_row rfl ?_
  exact readsWellFormed_unassigned

/-- Settles O3: the op field chooses a table, and the only rows that name RDASR and WRASR are those that a register
number divides. -/
theorem decodedWellFormed : Obligations.DecodedWellFormed := by
  intro w
  change ReadsWellFormed (decode w)
  obtain h | h | h | h := fieldOp_cases w
  · rw [decode_format2 h]
    exact readsWellFormed_decodeFormat2 w
  · rw [decode_call h]
    exact readsWellFormed_instr rfl
  · rw [decode_arith h]
    exact readsWellFormed_decodeArith w
  · rw [decode_memory h]
    exact readsWellFormed_decodeMemory w

end Sys2Proof.Proofs

/-! The floating-point operate instructions: how one is issued, what the FPU leaves of one that it holds, and what one
that completes writes (R411 to R415). -/

namespace Sys2Proof.Proofs

open Sys2Proof.Machine Sys2Proof.Laws

/-! ### The issue of an FPop (R411) -/

section
variable {s : State} {i : Instr} {op : FpOp} {rd rs1 rs2 : RegNum}

/-- An FPop is the check of its unit and then its issue, and the word that it may leave in the queue is its own. -/
theorem exec_fpop_encode (hi : fpopOf i = some (op, rd, rs1, rs2)) :
    exec i s = fpop op rd rs1 rs2 s ∧ fpopWord op rd rs1 rs2 = encode i := by
  cases i with
  | fmovs | fnegs | fabss | fsqrts | fsqrtd | fsqrtq | fadds | faddd | faddq | fsubs | fsubd | fsubq | fmuls | fmuld
  | fmulq | fdivs | fdivd | fdivq | fsmuld | fdmulq | fitos | fitod | fitoq | fstoi | fdtoi | fqtoi | fstod | fstoq
  | fdtos | fdtoq | fqtos | fqtod | fcmps | fcmpd | fcmpq | fcmpes | fcmped | fcmpeq => cases hi; exact ⟨rfl, rfl⟩
  | _ => exact nomatch hi

theorem fpOperate_fpuReady (h : FpuReady s) (k : Outcome) : fpOperate s k = k := by
  have henabled := fpEnabled_ready h
  obtain ⟨-, -, -, hmode⟩ := h
  exact fpOperate_ready henabled hmode k

theorem exec_fpop_ready (hi : fpopOf i = some (op, rd, rs1, rs2)) (h : FpuReady s) :
    exec i s = issueFpop op rd rs1 rs2 s :=
  (exec_fpop_encode hi).1.trans (fpOperate_fpuReady h _)

theorem issueFpop_unimplemented (hquad : op.isQuad = true) (hcfg : s.cfg.quadFp = false) :
    issueFpop op rd rs1 rs2 s = .next (advance (queueFpop 3#3 (fpopWord op rd rs1 rs2) s)) := by
  simp [issueFpop, hquad, hcfg]

/-- An FPop that the FPU implements goes on to the test of its register numbers (R412, R413). -/
theorem issueFpop_implemented (h : op.isQuad = false ∨ s.cfg.quadFp = true) :
    issueFpop op rd rs1 rs2 s =
      if !op.alignedOperands rd rs1 rs2 && decide (s.cfg.oddRd = .refuse) then .refused .oddRegister
      else if !op.alignedOperands rd rs1 rs2 && decide (s.cfg.oddRd = .illegalInstruction) then
        .next (advance (queueFpop 6#3 (fpopWord op rd rs1 rs2) s))
      else if fpuDeclines s then .next (advance (queueFpop 2#3 (fpopWord op rd rs1 rs2) s))
      else .next (advance (finishFpop op rd rs1 rs2 s)) := by
  have himplemented : (op.isQuad && !s.cfg.quadFp) = false := by rcases h with h | h <;> simp [h]
  simp [issueFpop, himplemented]

theorem issueFpop_misaligned (h : op.isQuad = false ∨ s.cfg.quadFp = true)
    (halign : op.alignedOperands rd rs1 rs2 = false) (hodd : s.cfg.oddRd = .illegalInstruction) :
    issueFpop op rd rs1 rs2 s = .next (advance (queueFpop 6#3 (fpopWord op rd rs1 rs2) s)) := by
  simp [issueFpop_implemented h, halign, hodd]

theorem issueFpop_refused (h : op.isQuad = false ∨ s.cfg.quadFp = true)
    (halign : op.alignedOperands rd rs1 rs2 = false) (hodd : s.cfg.oddRd = .refuse) :
    issueFpop op rd rs1 rs2 s = .refused .oddRegister := by
  simp [issueFpop_implemented h, halign, hodd]

/-- An FPop that passes the checks of R411 to R413 is declined or finished (R414, R415). -/
theorem issueFpop_accepted (h : FpopAccepted op rd rs1 rs2 s) :
    issueFpop op rd rs1 rs2 s =
      if fpuDeclines s then .next (advance (queueFpop 2#3 (fpopWord op rd rs1 rs2) s))
      else .next (advance (finishFpop op rd rs1 rs2 s)) := by
  obtain ⟨-, himplemented, halign⟩ := h
  rw [issueFpop_implemented himplemented]
  rcases halign with halign | hodd
  · simp [halign]
  · simp [hodd]

theorem exec_fpop_runs (hi : fpopOf i = some (op, rd, rs1, rs2)) (h : FpopRuns op rd rs1 rs2 s) :
    exec i s = .next (advance (finishFpop op rd rs1 rs2 s)) := by
  obtain ⟨haccepted, hdecline⟩ := h
  have hruns : fpuDeclines s = false := by simp [fpuDeclines, hdecline]
  rw [exec_fpop_ready hi haccepted.1, issueFpop_accepted haccepted, if_neg (by simp [hruns])]

end

/-! ### An FPop that the FPU holds (R412, R415) -/

section
variable {s : State}

/-- An FPop that is put in the queue is held, whatever is written to cexc before (R415). -/
theorem fpopHeld_queueFpop_setCexc (h : Settled s) (ftt : BitVec 3) (word : Word) (v : BitVec 5) :
    FpopHeld ftt word s (advance (queueFpop ftt word (setCexc v s))) where
  queue := rfl
  mode := rfl
  ftt := rfl
  registers := rfl
  fcc := rfl
  aexc := rfl
  quiet := quietEffect_advance h (by simp)
  cp := rfl
  memory := ⟨fun _ _ => rfl, rfl⟩

theorem fpopHeld_queueFpop (h : Settled s) (ftt : BitVec 3) (word : Word) :
    FpopHeld ftt word s (advance (queueFpop ftt word s)) ∧
      (advance (queueFpop ftt word s)).fpu.fsr.cexc = s.fpu.fsr.cexc :=
  ⟨fpopHeld_queueFpop_setCexc h ftt word s.fpu.fsr.cexc, rfl⟩

/-- One bit of the enabled exceptions is enabled and signalled. -/
theorem twoPow_enabled {exc tem : BitVec 5} {k : Nat} (h : (exc &&& tem).getLsbD k = true) :
    BitVec.twoPow 5 k &&& tem ≠ 0#5 ∧ BitVec.twoPow 5 k &&& ~~~exc = 0#5 := by
  obtain ⟨hexc, htem⟩ : exc.getLsbD k = true ∧ tem.getLsbD k = true := by simpa using h
  have hk : k < 5 := BitVec.lt_of_getLsbD htem
  constructor
  · intro hzero
    have hbit := congrArg (·.getLsbD k) hzero
    simp [-BitVec.getLsbD_eq_getElem, htem, hk] at hbit
  · apply BitVec.eq_of_getLsbD_eq
    intro j hj
    by_cases hjk : k = j
    · simp [← hjk, hexc]
    · simp [hjk]

/-- cexc of a trapping FPop holds an enabled exception and only signalled ones (R415, log 15). -/
theorem trappingCexc_spec {exc tem : BitVec 5} (h : exc &&& tem ≠ 0#5) :
    trappingCexc exc tem &&& tem ≠ 0#5 ∧ trappingCexc exc tem &&& ~~~exc = 0#5 := by
  unfold trappingCexc
  dsimp only
  split_ifs with hnv hof huf hdz
  · exact twoPow_enabled hnv
  · exact twoPow_enabled hof
  · exact twoPow_enabled huf
  · exact twoPow_enabled hdz
  · exact ⟨h, BitVec.and_not_self exc⟩

variable {op : FpOp} {rd rs1 rs2 : RegNum}

theorem fpopTrapped_finishFpop (h : Settled s) (hexc : (fpResult op rs1 rs2 s).2 &&& s.fpu.fsr.tem ≠ 0#5) :
    FpopTrapped (fpopWord op rd rs1 rs2) (fpResult op rs1 rs2 s).2 s (advance (finishFpop op rd rs1 rs2 s)) := by
  rw [finishFpop, if_neg hexc]
  obtain ⟨henabled, hsignalled⟩ := trappingCexc_spec hexc
  exact ⟨fpopHeld_queueFpop_setCexc h _ _ _, henabled, hsignalled⟩

/-! ### An FPop that completes (R413, R415) -/

/-- The words of a result (R55). -/
theorem extractLsb'_ofNat (bits : Nat) {k : Nat} (hk : k ≤ 96) :
    (BitVec.ofNat 128 bits).extractLsb' k 32 = BitVec.ofNat 32 (bits / 2 ^ k) := by
  apply BitVec.eq_of_getLsbD_eq
  intro j hj
  have hlt : k + j < 128 := by omega
  simp [-BitVec.getLsbD_eq_getElem, hj, hlt, BitVec.getLsbD_ofNat, Nat.testBit_div_two_pow, Nat.add_comm]

/-- The registers of a result are distinct, so the order of the writes does not matter (R413). -/
theorem readF_writeFp (k : FpKind) (rd n : RegNum) (bits : Nat) :
    readF n (writeFp k rd bits s) = (resultWord k rd n bits).getD (readF n s) := by
  have h0 := extractLsb'_ofNat bits (k := 0) (by decide)
  have h32 := extractLsb'_ofNat bits (k := 32) (by decide)
  have h64 := extractLsb'_ofNat bits (k := 64) (by decide)
  have h96 := extractLsb'_ofNat bits (k := 96) (by decide)
  rw [pow_zero, Nat.div_one] at h0
  unfold writeFp resultWord
  dsimp only
  rw [h0, h32, h64, h96]
  generalize k.firstRegister rd = r
  cases k with
  | absent => rfl
  | single | double | quad =>
    simp only [readF_writeF]
    grind

theorem writeFp_fpu (k : FpKind) (rd : RegNum) (bits : Nat) (s : State) :
    (writeFp k rd bits s).fpu = { s.fpu with f := (writeFp k rd bits s).fpu.f } := by
  cases k <;> rfl

/-- The result goes to the f registers, and to fcc for a compare, and nowhere else in the FPU (R415). -/
theorem writeFpResult_fpu (op : FpOp) (rd : RegNum) (bits : Nat) (s : State) :
    (writeFpResult op rd bits s).fpu =
      { s.fpu with
        f := (writeFpResult op rd bits s).fpu.f
        fsr := { s.fpu.fsr with fcc := if op.rdKind = .absent then BitVec.ofNat 2 bits else s.fpu.fsr.fcc } } := by
  unfold writeFpResult
  split
  · rfl
  · exact writeFp_fpu ..

theorem readF_writeFpResult (n : RegNum) (bits : Nat) :
    readF n (writeFpResult op rd bits s) = (resultWord op.rdKind rd n bits).getD (readF n s) := by
  unfold writeFpResult
  split
  next habsent => rw [habsent]; rfl
  next => exact readF_writeFp ..

theorem fpopEffect_finishFpop (h : FpuReady s) (hexc : (fpResult op rs1 rs2 s).2 &&& s.fpu.fsr.tem = 0#5) :
    FpopEffect op rd (fpResult op rs1 rs2 s) s (advance (finishFpop op rd rs1 rs2 s)) := by
  obtain ⟨hs, -, -, hmode⟩ := h
  rw [finishFpop, if_pos hexc]
  generalize fpResult op rs1 rs2 s = r
  have hfpu : (advance (writeFpResult op rd r.1 (accrueExceptions r.2 s))).fpu = _ :=
    writeFpResult_fpu op rd r.1 (accrueExceptions r.2 s)
  exact
    { registers := fun n => readF_writeFpResult n r.1
      fcc := by rw [hfpu]; rfl
      cexc := by rw [hfpu]; rfl
      aexc := by rw [hfpu]; rfl
      ftt := by rw [hfpu]; rfl
      control := by rw [hfpu]; exact ⟨rfl, rfl, rfl⟩
      queue := by rw [hfpu]; exact ⟨rfl, hmode⟩
      quiet := quietEffect_advance hs (by simp)
      cp := by simp
      memory := ⟨readByte_of_mem (by simp), by simp⟩ }

end

/-! ### The operation on its registers (R414(a), R420 to R422) -/

/-- A single or an integer operand is the register's word (R413). -/
theorem ofNat_readFp_single (n : RegNum) (s : State) : BitVec.ofNat 32 (readFp .single n s) = readF n s := by
  rw [readFp, BitVec.ofNat_toNat, BitVec.setWidth_eq]
  rfl

theorem exceptionBits_none : FpExceptions.none.bits = 0#5 := by decide

/-- A move, or any FPop with NS = 0, gives what its operation computes. -/
theorem fpResult_standard {op : FpOp} {rs1 rs2 : RegNum} {s : State} {r : FpResult}
    (hns : (s.fpu.fsr.ns && !op.isMove) = false)
    (hcompute : op.compute (fpControl s) (readFp op.rs1Kind rs1 s) (readFp op.rs2Kind rs2 s) = r) :
    fpResult op rs1 rs2 s = (r.bits, r.exc.bits) := by
  simp only [fpResult, hns, hcompute, Bool.false_eq_true, if_false]

/-- A move signals nothing. -/
theorem fpResult_of_isMove {op : FpOp} {rs1 rs2 : RegNum} {s : State} {bits : Nat} (hmove : op.isMove = true)
    (hcompute : op.compute (fpControl s) (readFp op.rs1Kind rs1 s) (readFp op.rs2Kind rs2 s) = exactResult bits) :
    fpResult op rs1 rs2 s = (bits, 0#5) := by
  rw [fpResult_standard (by simp [hmove]) hcompute, exactResult, exceptionBits_none]

/-- Settles O49: the FPU finishes the FPop, and what it writes of the FPU is the result and the FSR. -/
theorem fpopEffects : Obligations.FpopEffects := by
  refine ⟨fun s i op rd rs1 rs2 hi hruns hexc => ?_, fun s rs1 rs2 => ⟨?_, ?_, ?_⟩⟩
  · exact ⟨_, exec_fpop_runs hi hruns, fpopEffect_finishFpop hruns.1.1 hexc⟩
  · exact fpResult_of_isMove rfl rfl
  · exact fpResult_of_isMove rfl
      (congrArg (fun w => exactResult (w ^^^ 0x80000000#32).toNat) (ofNat_readFp_single rs2 s))
  · exact fpResult_of_isMove rfl
      (congrArg (fun w => exactResult (w &&& 0x7FFFFFFF#32).toNat) (ofNat_readFp_single rs2 s))

/-- Settles O50: the checks of R411 in order; each queues the FPop, refuses it, or lets the FPU finish it. -/
theorem fpopHeldCases : Obligations.FpopHeldCases := by
  intro s i op rd rs1 rs2 hi hready
  have h : Settled s := hready.1
  rw [← (exec_fpop_encode (s := s) hi).2]
  have hexec := exec_fpop_ready hi hready
  refine ⟨fun hquad hcfg => ?_, fun himplemented halign => ⟨fun hodd => ?_, fun hodd => ?_⟩, fun hruns hexc => ?_,
    fun haccepted hdecline => ?_⟩
  · exact ⟨_, hexec.trans (issueFpop_unimplemented hquad hcfg), fpopHeld_queueFpop h ..⟩
  · exact ⟨_, hexec.trans (issueFpop_misaligned himplemented halign hodd), fpopHeld_queueFpop h ..⟩
  · exact hexec.trans (issueFpop_refused himplemented halign hodd)
  · exact ⟨_, exec_fpop_runs hi hruns, fpopTrapped_finishFpop h hexc⟩
  · rw [hexec, issueFpop_accepted haccepted]
    have hfree : fpuDeclines s = freeBit s.draws .fpuDeclines := by simp [fpuDeclines, hdecline]
    rw [hfree]
    split_ifs with hdeclines hmasked
    · exact ⟨_, rfl, fpopHeld_queueFpop h ..⟩
    · exact ⟨_, rfl, fpopEffect_finishFpop hready hmasked⟩
    · exact ⟨_, rfl, fpopTrapped_finishFpop h hmasked⟩

/-! ### A fetch that is refused, and a word that is no instruction (R412, R531, R533) -/

/-- Settles O6: the step comes to the fetch, and each case is a trap or the queue of the FPU. -/
theorem stepRejectsWord : Obligations.StepRejectsWord := by
  rintro s b rfl h hreset hmode hint hannul
  rw [step_eq_fetchAndExecute hreset hmode hint hannul]
  refine ⟨fun hf => ?_, fun w hf hw => ?_, fun w hf hw hready => ?_⟩
  · have hexec : fetchAndExecute (boundary s) = raise .instructionAccessException (boundary s) := by
      simp [fetchAndExecute, hf]
    exact ⟨_, hexec, trapOutcome_takeTrap h _⟩
  · have hexec : fetchAndExecute (boundary s) = raise .illegalInstruction (boundary s) := by
      simp [fetchAndExecute, execWord, execUnassigned, hf, hw]
    exact ⟨_, hexec, trapOutcome_takeTrap h _⟩
  · have hexec : fetchAndExecute (boundary s) = .next (advance (queueFpop 3#3 w (boundary s))) := by
      simp [fetchAndExecute, execWord, execUnimplementedFpop, hf, hw, fpOperate_fpuReady hready]
    exact ⟨_, hexec, fpopHeld_queueFpop h ..⟩

end Sys2Proof.Proofs

/-! From an integer to a double: a number of the format read back, and a rounding that cuts nothing off (R414, R441). -/

namespace Sys2Proof.Proofs

open Sys2Proof.Machine Sys2Proof.Laws

section
variable {fmt : FpFormat} {sign : Bool} {e f : Nat}

/-! ### A bit pattern packed and read (R414) -/

/-- A bit pattern as a number in the places of its fields: fraction, exponent, sign. -/
theorem pack_eq (fmt : FpFormat) (sign : Bool) (e f : Nat) :
    fmt.pack sign e f = f + 2 ^ fmt.fracBits * (e + 2 ^ fmt.expBits * sign.toNat) := by
  unfold FpFormat.pack
  cases sign
  · simp only [Bool.false_eq_true, if_false, Bool.toNat_false]
    ring
  · simp only [if_true, Bool.toNat_true]
    ring

/-- An exponent field that is neither all zeros nor all ones reads as a number with the hidden bit. -/
theorem read_pack_normal (he : 0 < e) (hmax : e < fmt.maxExp) (hf : f < 2 ^ fmt.fracBits) :
    fmt.read (fmt.pack sign e f) = .number sign (2 ^ fmt.fracBits + f) ((e : Int) - fmt.bias - fmt.fracBits) := by
  have heExp : e < 2 ^ fmt.expBits := hmax.trans_le (Nat.sub_le ..)
  have hquot : fmt.pack sign e f / 2 ^ fmt.fracBits = e + 2 ^ fmt.expBits * sign.toNat := by
    rw [pack_eq, Nat.add_mul_div_left _ _ (Nat.two_pow_pos _), Nat.div_eq_of_lt hf, zero_add]
  have hexp : fmt.pack sign e f / 2 ^ fmt.fracBits % 2 ^ fmt.expBits = e := by
    rw [hquot, Nat.add_mul_mod_self_left, Nat.mod_eq_of_lt heExp]
  have hfrac : fmt.pack sign e f % 2 ^ fmt.fracBits = f := by
    rw [pack_eq, Nat.add_mul_mod_self_left, Nat.mod_eq_of_lt hf]
  have hsign : decide (fmt.pack sign e f / 2 ^ (fmt.expBits + fmt.fracBits) % 2 = 1) = sign := by
    rw [Nat.add_comm, pow_add, ← Nat.div_div_eq_div_mul, hquot, Nat.add_mul_div_left _ _ (Nat.two_pow_pos _),
      Nat.div_eq_of_lt heExp]
    cases sign <;> rfl
  simp only [FpFormat.read, hsign, hexp, hfrac, if_neg hmax.ne, if_neg he.ne']

theorem pack_lt (he : e < 2 ^ fmt.expBits) (hf : f < 2 ^ fmt.fracBits) :
    fmt.pack sign e f < 2 ^ (fmt.fracBits + fmt.expBits + 1) := by
  have hfields : e + 2 ^ fmt.expBits * sign.toNat + 1 ≤ 2 ^ fmt.expBits * 2 := by
    cases sign
    · simp only [Bool.toNat_false]
      omega
    · simp only [Bool.toNat_true]
      omega
  calc fmt.pack sign e f
    _ < 2 ^ fmt.fracBits * (e + 2 ^ fmt.expBits * sign.toNat + 1) := by rw [pack_eq]; linarith
    _ ≤ 2 ^ fmt.fracBits * (2 ^ fmt.expBits * 2) := Nat.mul_le_mul_left _ hfields
    _ = 2 ^ (fmt.fracBits + fmt.expBits + 1) := by ring

/-! ### A rounding that cuts nothing off (R414) -/

theorem roundsUp_exact (rounding : BitVec 2) (sign : Bool) (kept : Nat) : roundsUp rounding sign kept 0 1 = false := by
  simp [roundsUp]

/-- A number with its top bit moved to the place of the hidden bit. -/
theorem normalized_bounds {mant : Nat} (hmant : mant ≠ 0) {width : Nat} (hwidth : Nat.log2 mant ≤ width) :
    2 ^ width ≤ mant * 2 ^ (width - Nat.log2 mant) ∧ mant * 2 ^ (width - Nat.log2 mant) < 2 * 2 ^ width := by
  have hpow : 2 ^ Nat.log2 mant * 2 ^ (width - Nat.log2 mant) = 2 ^ width := by
    rw [← pow_add, Nat.add_sub_cancel' hwidth]
  have hle : 2 ^ Nat.log2 mant ≤ mant := Nat.log2_self_le hmant
  have hlt : mant < 2 * 2 ^ Nat.log2 mant := by
    rw [← pow_succ']
    exact Nat.lt_log2_self
  constructor
  · rw [← hpow]
    exact Nat.mul_le_mul_right _ hle
  · rw [← hpow, ← mul_assoc]
    exact Nat.mul_lt_mul_of_pos_right hlt (Nat.two_pow_pos _)

/-- The hidden bit counts as one in the exponent field, and the carry stays below the infinities. -/
theorem hiddenBit_carried {place kept lower maxExp : Nat} (hle : place ≤ kept) (hlt : kept < 2 * place)
    (hmax : lower + 1 < maxExp) :
    lower * place + kept = (lower + 1) * place + (kept - place) ∧ lower * place + kept < maxExp * place := by
  have hroom : (lower + 2) * place ≤ maxExp * place := Nat.mul_le_mul_right _ hmax
  rw [Nat.add_mul] at hroom
  rw [Nat.add_mul, one_mul]
  omega

/-- An integer that the fraction field and the hidden bit hold is the result as it stands: nothing is signalled. -/
theorem roundNumber_integer (ctl : FpControl) (sign : Bool) {mant : Nat} (hmant : mant ≠ 0) (hbias : 1 ≤ fmt.bias)
    (hwidth : Nat.log2 mant ≤ fmt.fracBits) (hmax : fmt.bias + Nat.log2 mant < fmt.maxExp) :
    roundNumber fmt ctl sign mant 0 = exactResult (fmt.pack sign (fmt.bias + Nat.log2 mant)
      (mant * 2 ^ (fmt.fracBits - Nat.log2 mant) - 2 ^ fmt.fracBits)) := by
  obtain ⟨hle, hlt⟩ := normalized_bounds hmant hwidth
  obtain ⟨lower, hlower⟩ := Nat.exists_eq_add_of_le' (hbias.trans (Nat.le_add_right fmt.bias (Nat.log2 mant)))
  rw [hlower] at hmax ⊢
  obtain ⟨hmagnitude, hfinite⟩ := hiddenBit_carried hle hlt hmax
  have hunit : max (0 + (Nat.log2 mant : Int) - fmt.fracBits) (1 - (fmt.bias : Int) - fmt.fracBits) =
      Nat.log2 mant - fmt.fracBits := by omega
  have hcut : ((Nat.log2 mant : Int) - fmt.fracBits - 0).toNat = 0 := by omega
  have hshift : (0 - ((Nat.log2 mant : Int) - fmt.fracBits)).toNat = fmt.fracBits - Nat.log2 mant := by omega
  have hlift : ((Nat.log2 mant : Int) - fmt.fracBits - (1 - (fmt.bias : Int) - fmt.fracBits)).toNat = lower := by
    omega
  have htiny : decide (0 + (Nat.log2 mant : Int) < 1 - fmt.bias) = false := decide_eq_false (by omega)
  simp only [roundNumber, hunit, hcut, hshift, hlift, htiny, pow_zero, Nat.div_one, Nat.mod_one, mul_zero,
    roundsUp_exact, Bool.false_eq_true, if_false, if_neg hfinite.not_ge, Bool.false_and]
  simp only [exactResult, FpFormat.pack, hmagnitude, zero_mul, add_zero, add_assoc]
  rfl

end

/-! ### FiTOd (R441) -/

/-- The magnitude of a 32-bit integer needs no more than 32 bits, so a double holds it. -/
theorem log2_natAbs_toInt {w : Word} (hw : w ≠ 0#32) :
    w.toInt.natAbs ≠ 0 ∧ Nat.log2 w.toInt.natAbs < 32 := by
  have hne : w.toInt.natAbs ≠ 0 := by
    rw [Ne, Int.natAbs_eq_zero, ← BitVec.toInt_zero (w := 32), BitVec.toInt_inj]
    exact hw
  have hlt := BitVec.toInt_lt (x := w)
  have hle := BitVec.le_toInt (x := w)
  exact ⟨hne, (Nat.log2_lt hne).mpr (by omega)⟩

theorem fpResult_fitod {s : State} (hns : s.fpu.fsr.ns = false) (rs1 rs2 : RegNum) :
    fpResult .fitod rs1 rs2 s =
      let r := fpOfInteger fpDouble (fpControl s) (readF rs2 s)
      (r.bits, r.exc.bits) :=
  fpResult_standard (by simp [hns]) (congrArg (fpOfInteger fpDouble (fpControl s)) (ofNat_readFp_single rs2 s))

/-- Settles O51: the magnitude of the integer needs no more bits than a double has, so the rounding cuts nothing off. -/
theorem integerToDoubleExact : Obligations.IntegerToDoubleExact := by
  intro s rs1 rs2 hns w r
  have hr : r = _ := fpResult_fitod hns rs1 rs2
  by_cases hw : w = 0#32
  · rw [fpOfInteger, if_pos hw] at hr
    rw [hr, if_pos hw]
    decide
  · obtain ⟨hne, hlog⟩ := log2_natAbs_toInt hw
    have hbias : fpDouble.bias = 1023 := by decide
    have hmaxExp : fpDouble.maxExp = 2047 := by decide
    have hwidth : fpDouble.fracBits = 52 := rfl
    obtain ⟨hle, hlt⟩ := normalized_bounds hne (width := fpDouble.fracBits) (by omega)
    have hexp : fpDouble.bias + Nat.log2 w.toInt.natAbs < fpDouble.maxExp := by omega
    rw [fpOfInteger, if_neg hw, roundNumber_integer _ _ hne (by omega) (by omega) hexp] at hr
    rw [hr, if_neg hw]
    refine ⟨exceptionBits_none, pack_lt (hexp.trans_le (Nat.sub_le ..)) (by omega),
      w.toInt.natAbs * 2 ^ (fpDouble.fracBits - Nat.log2 w.toInt.natAbs), fpDouble.fracBits - Nat.log2 w.toInt.natAbs,
      ?_, rfl⟩
    rw [exactResult, read_pack_normal (by omega) hexp (by omega), Nat.add_sub_cancel' hle]
    congr 1
    omega

end Sys2Proof.Proofs

/-! The state after reset, and the first cases of a step: reset, error mode, and an interrupt (R13, R70, R512, R560,
R591). -/

namespace Sys2Proof.Proofs

open Sys2Proof.Machine Sys2Proof.Laws

/-! ### The state after reset (R70) -/

/-- Settles O10: the fields of the reset state, read off its definition. -/
theorem resetState : Obligations.ResetState :=
  ⟨rfl, rfl, rfl, rfl, rfl, rfl, rfl, rfl, rfl, rfl, rfl⟩

/-- Settles O57: pc and npc are 0 and 4, the queue and the memory are empty, and no window is open. -/
theorem invariantAtReset : Obligations.InvariantAtReset :=
  { pcAligned := ⟨by decide, by decide⟩
    fpuConsistent := .inl ⟨rfl, rfl⟩
    memoryCanonical := rfl
    busFree := rfl
    delaysBounded := delaysBounded_noDelays }

/-! ### The first three cases of a step (R13) -/

/-- Settles O7: the request, or error mode with ERROR_MODE_RESETS, is the first test of a step. -/
theorem stepTakesReset : Obligations.StepTakesReset := by
  rintro s b rfl hrequest
  have hreset : ((boundary s).inputs.resetReq ||
      (decide ((boundary s).mode = .error) && (boundary s).cfg.errorModeResets)) = true := by
    rcases hrequest with hreq | ⟨hmode, hcfg⟩
    · rw [hreq, Bool.true_or]
    · rw [hcfg, decide_eq_true hmode, Bool.and_true, Bool.or_true]
  exact if_pos hreset

/-- Error mode with no reset to come (R525). -/
theorem step_of_error {s : State} (hmode : (boundary s).mode = .error) (hreset : (boundary s).inputs.resetReq = false)
    (hcfg : (boundary s).cfg.errorModeResets = false) : step s = haltedStep (!s.schedule.isEmpty) (boundary s) := by
  rw [step, stepFrom, hreset, hcfg, Bool.and_false, Bool.or_false, if_neg Bool.false_ne_true, if_pos hmode]

/-- Settles O9: what is left of the step asks only whether the environment has a move. -/
theorem stepInErrorMode : Obligations.StepInErrorMode := by
  rintro s b rfl hmode hreset hcfg
  rw [step_of_error hmode hreset hcfg]
  constructor
  · intro hmore
    rw [List.isEmpty_eq_false_iff.mpr hmore]
    rfl
  · intro hnone
    rw [hnone]
    rfl

/-! ### Interrupts (R512) -/

/-- An interrupt is the first thing that a running machine takes at a boundary with no reset asked for. -/
theorem step_of_interrupt {s : State} (hreset : (boundary s).inputs.resetReq = false)
    (hmode : (boundary s).mode = .run) (hint : interruptTaken (boundary s) = true) :
    step s = .next (trapEntry (.interruptLevel (boundary s).inputs.irl) (boundary s)) := by
  have herror : (boundary s).mode ≠ .error := by rw [hmode]; decide
  rw [step, stepFrom, hreset, decide_eq_false herror, Bool.false_and, Bool.or_false, if_neg Bool.false_ne_true,
    if_neg herror, if_pos hint]

theorem interruptCondition_iff (irl : BitVec 4) (et : Bool) (pil : BitVec 4) :
    interruptCondition irl et pil = true ↔ et = true ∧ irl ≠ 0#4 ∧ (irl = 15#4 ∨ pil.toNat < irl.toNat) := by
  simp [interruptCondition, and_assoc]

/-- An appended field of `n` bits is the low part of the number. -/
theorem toNat_append_eq_add {m n : Nat} (x : BitVec m) (y : BitVec n) :
    (x ++ y).toNat = x.toNat * 2 ^ n + y.toNat := by
  rw [BitVec.toNat_append, ← Nat.shiftLeft_add_eq_or_of_lt y.isLt, Nat.shiftLeft_eq]

/-- tt of an interrupt (R501). -/
theorem toNat_trapCode_interruptLevel (level : BitVec 4) :
    (trapCode (.interruptLevel level)).toNat = 0x10 + level.toNat := toNat_append_eq_add 0x1#4 level

/-- Settles O8: with no field being modified the test of the step is the condition of R512. -/
theorem stepTakesInterrupt : Obligations.StepTakesInterrupt := by
  rintro s b rfl h hreset hmode
  have htaken := interruptCondition_iff (boundary s).inputs.irl (boundary s).psr.et (boundary s).psr.pil
  rw [← interruptTaken_settled h] at htaken
  by_cases hint : interruptTaken (boundary s) = true
  · rw [if_pos (htaken.mp hint)]
    refine ⟨_, step_of_interrupt hreset hmode hint, trapEntry_taken _ _, ?_⟩
    rw [(trapEntry_taken _ _).tt]
    exact toNat_trapCode_interruptLevel _
  · rw [if_neg (hint ∘ htaken.mpr), step_of_run hreset hmode (Bool.eq_false_iff.mpr hint)]
    by_cases hannul : (boundary s).annul = true
    · rw [if_pos hannul, if_pos hannul]
      rfl
    · rw [if_neg hannul, if_neg hannul]

end Sys2Proof.Proofs

/-! The shifts, SETHI, CALL and JMPL: results and targets as arithmetic (R285 to R290, R348, R349). -/

namespace Sys2Proof.Proofs

open Sys2Proof.Machine Sys2Proof.Laws

/-- Settles O16: each is one register write, and the shift of a bit vector is arithmetic with a power of 2. -/
theorem shiftSethiResults : Obligations.ShiftSethiResults := by
  intro s rd rs1 count imm22 h a k
  have effect (r : Word) := writeResult_effect h rd r
  refine ⟨?sll, ?srl, ?sra, ?sethi⟩
  case sll =>
    obtain ⟨t, hexec, heffect⟩ := effect (a <<< k)
    exact ⟨t, _, hexec, heffect, by rw [BitVec.toNat_shiftLeft, Nat.shiftLeft_eq]⟩
  case srl =>
    obtain ⟨t, hexec, heffect⟩ := effect (a >>> k)
    exact ⟨t, _, hexec, heffect, by rw [BitVec.toNat_ushiftRight, Nat.shiftRight_eq_div_pow]⟩
  case sra =>
    obtain ⟨t, hexec, heffect⟩ := effect (a.sshiftRight k)
    refine ⟨t, _, hexec, heffect, ?_⟩
    rw [BitVec.toInt_sshiftRight, Int.shiftRight_eq_div_pow, Nat.cast_pow, Nat.cast_ofNat]
  case sethi =>
    obtain ⟨t, hexec, heffect⟩ := effect (imm22 ++ 0#10)
    exact ⟨t, _, hexec, heffect, (toNat_append_eq_add imm22 0#10).trans (by simp)⟩

/-- Two zero bits below a displacement multiply it by 4; the 30 bits of CALL need no extension. -/
theorem append_two_zeros (disp30 : BitVec 30) : disp30 ++ 0#2 = 4#32 * disp30.zeroExtend 32 := by
  apply BitVec.eq_of_toNat_eq
  rw [toNat_append_eq_add, BitVec.toNat_mul, BitVec.zeroExtend, BitVec.toNat_setWidth_of_le (by decide)]
  have hlt := disp30.isLt
  simp only [BitVec.toNat_ofNat]
  omega

/-- A link register receives pc, and the transfer is delayed; nothing else changes. -/
theorem linkEffect_transfer {s : State} (h : Settled s) (rd : RegNum) (target : Word) :
    LinkEffect rd target s (transfer target (writeReg .rd rd s.pc s)) where
  regs k := by simpa using regWritten_writeReg h .rd rd s.pc k
  psr := by simp
  y := by simp
  special := ⟨by simp, by simp, by simp, by simp, by simp, by simp, by simp, by simp, by simp⟩
  units := ⟨by simp, by simp⟩
  memory := ⟨fun _ _ => readByte_of_mem (by simp) _ _, by simp⟩
  pc := by simp
  npc := by simp
  settled := settled_tick h (by simp)

/-- Settles O36: CALL links r[15]; JMPL tests the alignment of its target first. -/
theorem callJmplEffects : Obligations.CallJmplEffects := by
  intro s rd rs1 op2 disp30 h
  constructor
  · have htarget : callTarget disp30 s = s.pc + 4#32 * disp30.zeroExtend 32 := by rw [callTarget, append_two_zeros]
    rw [← htarget]
    exact ⟨_, rfl, linkEffect_transfer h 15#5 _⟩
  · intro target
    constructor
    · intro haligned
      exact ⟨_, if_pos ((aligned4_iff target).mpr haligned), linkEffect_transfer h rd target⟩
    · intro hmisaligned
      exact raises_of_exec h (if_neg fun haligned => hmisaligned ((aligned4_iff target).mp haligned))

end Sys2Proof.Proofs

/-! Ticc and RETT, and the trap of an instruction that is privileged and illegal at once (R162, R352, R355, R545). -/

namespace Sys2Proof.Proofs

open Sys2Proof.Machine Sys2Proof.Laws

/-! ### Ticc (R355, R545) -/

section
variable {s : State}

/-- A Ticc traps on the icc in use, or only advances (R355). -/
theorem exec_iccTrap {i : Instr} {cond : BitVec 4} {rs1 : RegNum} {op2 : RegImm}
    (hi : iccTrap i = some (cond, rs1, op2)) : exec i s = trapOn (evalIcc cond) rs1 op2 s := by
  cases i with
  | tn | te | tle | tl | tleu | tcs | tneg | tvs | ta | tne | tg | tge | tgu | tcc | tpos | tvc => cases hi; rfl
  | _ => exact nomatch hi

/-- A trap names itself in tt, with traps enabled or not (R520 step 6, R525). -/
theorem tt_takeTrap (T : TrapType) (s : State) : (takeTrap T s).tbr.tt = trapCode T := by
  unfold takeTrap
  split_ifs
  · exact (trapEntry_taken T s).tt
  · rfl

/-- The code of a Ticc is 128 plus the low seven bits of the sum (R355). -/
theorem toNat_trapCode_trapNumber (rs1 : RegNum) (op2 : RegImm) (s : State) :
    (trapCode (.trapInstruction (trapNumber rs1 op2 s))).toNat =
      128 + ((operand1 rs1 s).toNat + (operand2 op2 s).toNat) % 128 := by
  have hcode : (trapCode (.trapInstruction (trapNumber rs1 op2 s))).toNat = 128 + (trapNumber rs1 op2 s).toNat :=
    toNat_append_eq_add 0b1#1 _
  have hsum := BitVec.toNat_add (operand1 rs1 s) (operand2 op2 s)
  rw [hcode, trapNumber, BitVec.extractLsb'_toNat, effectiveAddress, hsum, Nat.shiftRight_zero]
  omega

end

/-- Settles O37: the icc in use is the PSR's, and the trap's code is that of its number. -/
theorem ticcEffects : Obligations.TiccEffects := by
  intro s i cond rs1 op2 h hi
  have hexec : exec i s = trapOn (evalIcc cond) rs1 op2 s := exec_iccTrap hi
  rw [trapOn, iccInUse_settled h] at hexec
  by_cases htest : evalIcc cond s.psr.icc = true
  · rw [if_pos htest] at hexec ⊢
    refine ⟨_, trapNumber rs1 op2 s, hexec, trapOutcome_takeTrap h _, ?_⟩
    rw [tt_takeTrap]
    exact toNat_trapCode_trapNumber rs1 op2 s
  · rw [if_neg htest] at hexec ⊢
    exact hexec

/-! ### An instruction that is privileged and illegal at once (R162, R503) -/

/-- The trap of an illegal form: privileged_instruction comes first in user mode, where PRIV_BEFORE_ILLEGAL says so. -/
def illegalFormTrap (s : State) : TrapType :=
  if s.psr.s = false ∧ s.cfg.privBeforeIllegal = true then .privilegedInstruction else .illegalInstruction

section
variable {s : State}

theorem privilegedForm_illegal (h : Settled s) (k : Outcome) :
    privilegedForm true s k = raise (illegalFormTrap s) s := by
  rw [privilegedForm, privileged_settled h, illegalFormTrap]
  cases s.psr.s <;> cases s.cfg.privBeforeIllegal <;> rfl

/-! ### RETT (R352) -/

/-- RETT with no field being modified: its trap with ET = 1, its three conditions and its return with ET = 0. -/
theorem exec_rett_settled (h : Settled s) (rs1 : RegNum) (op2 : RegImm) :
    exec (.rett rs1 op2) s =
      if s.psr.et then raise (illegalFormTrap s) s
      else if !s.psr.s then .next (enterErrorMode .privilegedInstruction s)
      else if s.wim.getLsbD (s.psr.cwp + 1#3).toNat then .next (enterErrorMode .windowUnderflow s)
      else if !aligned4 (effectiveAddress rs1 op2 s) then .next (enterErrorMode .memoryAddressNotAligned s)
      else .next (returnFromTrap (s.psr.cwp + 1#3) (effectiveAddress rs1 op2 s) s) := by
  change execRett rs1 op2 s = _
  have htrap : (if !s.psr.s && s.cfg.privBeforeIllegal then raise .privilegedInstruction s
      else raise .illegalInstruction s) = raise (illegalFormTrap s) s := by
    rw [illegalFormTrap]
    cases s.psr.s <;> cases s.cfg.privBeforeIllegal <;> rfl
  rw [execRett, trapsEnabledForRett_settled h, privileged_settled h, windowInUse_settled h, windowInvalid_settled h,
    htrap]

/-- The masks of the PSR that RETT closes were closed before (R575). -/
theorem settled_returnFromTrap (h : Settled s) (w : WindowNum) (target : Word) :
    Settled (returnFromTrap w target s) := by
  have htick : Settled (transfer target s) := settled_tick h rfl
  obtain ⟨hicc, hec, hef, -, hps, -, -, hpil, hrest⟩ := htick
  exact ⟨hicc, hec, hef, rfl, hps, rfl, rfl, hpil, hrest⟩

end

/-- Settles O38: the four tests of RETT pass. -/
theorem rettReturns : Obligations.RettReturns := by
  intro s rs1 op2 h het hs hwim hea
  have haligned : aligned4 (effectiveAddress rs1 op2 s) = true := (aligned4_iff _).mpr hea
  have hexec : exec (.rett rs1 op2) s = .next (returnFromTrap (s.psr.cwp + 1#3) (effectiveAddress rs1 op2 s) s) := by
    rw [exec_rett_settled h, het, hs, hwim, haligned]
    rfl
  refine ⟨_, hexec, ?_, rfl, rfl, rfl, rfl, ?_, ⟨rfl, rfl⟩, ⟨fun _ _ => rfl, rfl⟩, settled_returnFromTrap h _ _⟩
  · rw [← previousSupervisor_settled h]
    rfl
  · exact ⟨rfl, rfl, rfl, rfl, rfl, rfl, rfl, rfl, rfl⟩

/-- Settles O39: each clause is the first test of RETT that does not pass. -/
theorem rettTraps : Obligations.RettTraps := by
  intro s rs1 op2 h invalid misaligned failed
  have hexec := exec_rett_settled h rs1 op2
  refine ⟨fun het => ?_, fun het hs => ⟨_, ?_, rfl⟩, fun het hs hinvalid => ⟨_, ?_, rfl⟩,
    fun het hs hvalid hmisaligned => ⟨_, ?_, rfl⟩⟩
  · rw [het, if_pos rfl] at hexec
    exact raises_of_exec h hexec
  · rw [hexec, het, hs]
    rfl
  · have hwim : s.wim.getLsbD (s.psr.cwp + 1#3).toNat = true := hinvalid
    rw [hexec, het, hs, hwim]
    rfl
  · have hwim : s.wim.getLsbD (s.psr.cwp + 1#3).toNat = false := hvalid
    have haligned : aligned4 (effectiveAddress rs1 op2 s) = false :=
      Bool.eq_false_iff.mpr fun ha => hmisaligned ((aligned4_iff _).mp ha)
    rw [hexec, het, hs, hwim, haligned]
    rfl

end Sys2Proof.Proofs

/-! The privileged and illegal forms of the alternate-space instructions, and the odd register numbers (R26, R162,
R533). -/

namespace Sys2Proof.Proofs

open Sys2Proof.Machine Sys2Proof.Laws

/-! ### The alternate-space forms and the odd register numbers (R26, R162) -/

section
variable {s : State} {i : Instr} {kind : AccessKind} {n : Nat} {rs1 : RegNum}

/-- An alternate-space form with i = 0 in user mode. -/
theorem exec_alternateAccess_user {rs2 : RegNum} {asi : Asi}
    (hi : alternateAccess i = some (kind, n, rs1, .reg rs2 asi)) (hpair : PairReady i s) (hp : privileged s = false) :
    exec i s = raise .privilegedInstruction s := by
  have hform (k : Outcome) : privilegedForm false s k = raise .privilegedInstruction s := privilegedForm_user hp k
  cases i with
  | lda | lduba | ldsba | lduha | ldsha | sta | stba | stha | ldstuba | swapa => cases hi; exact hform _
  | ldda rd | stda rd =>
    cases hi
    have heven : oddRdIllegal rd s = false := (oddRd_of_pairNumber (hpair rd rfl)).1
    exact (congrArg (privilegedForm · s _) heven).trans (hform _)
  | _ => exact nomatch hi

theorem exec_alternateAccess_imm {k : BitVec 13} (hi : alternateAccess i = some (kind, n, rs1, .imm k)) :
    exec i s = alternateImmediate s := by
  cases i with
  | lda | lduba | ldsba | lduha | ldsha | ldda | sta | stba | stha | stda | ldstuba | swapa => cases hi; rfl
  | _ => exact nomatch hi

variable {rd : RegNum}

theorem oddRd_of_illegalInstruction (hodd : oddNumber rd = true) (hcfg : s.cfg.oddRd = .illegalInstruction) :
    oddRdIllegal rd s = true := by
  rw [oddRdIllegal, hodd, hcfg]
  rfl

theorem oddRd_of_refuse (hodd : oddNumber rd = true) (hcfg : s.cfg.oddRd = .refuse) :
    oddRdIllegal rd s = false ∧ oddRdRefused rd s = true := by
  rw [oddRdIllegal, oddRdRefused, hodd, hcfg]
  exact ⟨rfl, rfl⟩

/-- An odd rd of an ordinary, floating-point or coprocessor form (R26, log 50). -/
theorem pairRegister_odd (hodd : oddNumber rd = true) (k : Outcome) :
    (s.cfg.oddRd = .illegalInstruction → pairRegister rd s k = raise .illegalInstruction s) ∧
      (s.cfg.oddRd = .refuse → pairRegister rd s k = .refused .oddRegister) := by
  constructor
  · intro hcfg
    rw [pairRegister, oddRd_of_illegalInstruction hodd hcfg, if_pos rfl]
  · intro hcfg
    obtain ⟨hill, href⟩ := oddRd_of_refuse hodd hcfg
    rw [pairRegister, hill, href, if_neg Bool.false_ne_true, if_pos rfl]

/-- An odd rd of LDDA or STDA (R26, R162). -/
theorem privilegedPair_odd (h : Settled s) (hodd : oddNumber rd = true) (k : Outcome) :
    (s.cfg.oddRd = .illegalInstruction → privilegedPair rd s k = raise (illegalFormTrap s) s) ∧
      (s.cfg.oddRd = .refuse → s.psr.s = true → privilegedPair rd s k = .refused .oddRegister) ∧
      (s.cfg.oddRd = .refuse → s.psr.s = false → privilegedPair rd s k = raise .privilegedInstruction s) := by
  refine ⟨fun hcfg => ?_, fun hcfg hs => ?_, fun hcfg hs => ?_⟩
  · rw [privilegedPair, oddRd_of_illegalInstruction hodd hcfg, privilegedForm_illegal h]
  · obtain ⟨hill, href⟩ := oddRd_of_refuse hodd hcfg
    rw [privilegedPair, hill, privilegedForm_supervisor ((privileged_settled h).trans hs), if_pos href]
  · obtain ⟨hill, -⟩ := oddRd_of_refuse hodd hcfg
    rw [privilegedPair, hill, privilegedForm_user ((privileged_settled h).trans hs)]

/-- An odd rd of LDDC: as the others, but a trap leaves a present coprocessor to its implementation (R216). -/
theorem exec_lddc_odd (hodd : oddNumber rd = true) (rs1 : RegNum) (op2 : RegImm) :
    (s.cfg.oddRd = .illegalInstruction →
        exec (.lddc rd rs1 op2) s = raise .illegalInstruction (cpLoadTrapped true s)) ∧
      (s.cfg.oddRd = .refuse → exec (.lddc rd rs1 op2) s = .refused .oddRegister) := by
  change (_ → execLddc rd rs1 op2 s = _) ∧ (_ → execLddc rd rs1 op2 s = _)
  constructor
  · intro hcfg
    rw [execLddc, oddRd_of_illegalInstruction hodd hcfg, if_pos rfl]
  · intro hcfg
    obtain ⟨hill, href⟩ := oddRd_of_refuse hodd hcfg
    rw [execLddc, hill, href, if_neg Bool.false_ne_true, if_pos rfl]

/-- What a trap of a coprocessor load leaves of the coprocessor (R202, R215 to R217). -/
theorem cpLoadTrapped_absent (hcp : s.cfg.hasCp = false) (load : Bool) : cpLoadTrapped load s = s := by
  rw [cpLoadTrapped, hcp, Bool.and_false, if_neg Bool.false_ne_true]

theorem cpLoadTrapped_present (hcp : s.cfg.hasCp = true) (load : Bool) :
    cpLoadTrapped load s = if load then cpTrapped s else s := by
  rw [cpLoadTrapped, hcp, Bool.and_true]

/-- The doubleword forms without a privileged check, LDDC where no coprocessor is present. -/
theorem exec_pair_odd (hodd : oddNumber rd = true) (op2 : RegImm) :
    ∀ i ∈ [Instr.ldd rd rs1 op2, .std rd rs1 op2, .lddf rd rs1 op2, .stdf rd rs1 op2, .stdc rd rs1 op2] ++
        (if s.cfg.hasCp then [] else [.lddc rd rs1 op2]),
      (s.cfg.oddRd = .illegalInstruction → exec i s = raise .illegalInstruction s) ∧
        (s.cfg.oddRd = .refuse → exec i s = .refused .oddRegister) := by
  intro i hi
  rcases List.mem_append.mp hi with hi | hi
  · simp only [List.mem_cons, List.not_mem_nil, or_false] at hi
    rcases hi with rfl | rfl | rfl | rfl | rfl
    all_goals exact pairRegister_odd hodd _
  · cases hcp : s.cfg.hasCp with
    | true => simp [hcp] at hi
    | false =>
      obtain rfl : i = .lddc rd rs1 op2 := by simpa [hcp] using hi
      have hlddc := exec_lddc_odd (s := s) hodd rs1 op2
      rwa [cpLoadTrapped_absent hcp] at hlddc

end

/-- Settles O31: each form is refused or raises its trap before its operands are looked at. -/
theorem formTraps : Obligations.FormTraps := by
  intro s h first
  refine ⟨fun i kind n rs1 rs2 asi hi hpair hs => ?_, fun i kind n rs1 k hi => ?_,
    fun rd rs1 rs2 op2 asi hodd => ⟨fun i hi => ?_, fun hcp => ?_, fun i hi => ?_⟩⟩
  · exact raises_of_exec h (exec_alternateAccess_user hi hpair ((privileged_settled h).trans hs))
  · exact raises_of_exec h ((exec_alternateAccess_imm hi).trans (privilegedForm_illegal h _))
  · obtain ⟨hill, href⟩ := exec_pair_odd hodd op2 i hi
    exact ⟨fun hcfg => raises_of_exec h (hill hcfg), href⟩
  · obtain ⟨hill, href⟩ := exec_lddc_odd (s := s) hodd rs1 op2
    rw [cpLoadTrapped_present hcp, if_pos rfl] at hill
    exact ⟨fun hcfg => ⟨_, hill hcfg, trapOutcome_takeTrap (s := cpTrapped s) h _⟩, href⟩
  · have hexec : ∃ k, exec i s = privilegedPair rd s k := by
      simp only [List.mem_cons, List.not_mem_nil, or_false] at hi
      rcases hi with rfl | rfl
      all_goals exact ⟨_, rfl⟩
    obtain ⟨k, hk⟩ := hexec
    obtain ⟨hill, href, huser⟩ := privilegedPair_odd h hodd k
    exact ⟨fun hcfg => raises_of_exec h (hk.trans (hill hcfg)), fun hcfg hs => hk.trans (href hcfg hs),
      fun hcfg hs => raises_of_exec h (hk.trans (huser hcfg hs))⟩

end Sys2Proof.Proofs

/-! The traps of the state register instructions and of the queue stores (R381, R391, R393, R551). -/

namespace Sys2Proof.Proofs

open Sys2Proof.Machine Sys2Proof.Laws

/-! ### The state registers and the queue stores (R201, R202, R380, R390) -/

section
variable {s : State}

/-- A privileged instruction that tests S first, in user mode (R551). -/
theorem exec_privileged_user (hp : privileged s = false) (rd rs1 : RegNum) (op2 : RegImm) :
    ∀ i ∈ [Instr.rdpsr rd, .rdwim rd, .rdtbr rd, .wrpsr rs1 op2, .wrwim rs1 op2, .wrtbr rs1 op2, .stdfq rs1 op2,
      .stdcq rs1 op2], exec i s = raise .privilegedInstruction s := by
  have huser : ¬ privileged s = true := by rw [hp]; exact Bool.false_ne_true
  simp only [List.forall_mem_cons, List.not_mem_nil, false_imp_iff, implies_true, and_true]
  exact ⟨if_neg huser, if_neg huser, if_neg huser, if_neg huser, if_neg huser, if_neg huser, if_neg huser,
    if_neg huser⟩

/-! #### RDASR and WRASR (R381, R391) -/

variable {n : RegNum}

theorem asrKind_table (ht : s.cfg.asrDecode = .table) (hn : 16 ≤ n.toNat) :
    asrKind s.cfg n = if n.toNat < 24 then .userUnimplemented else if n.toNat < 30 then .privilegedUnimplemented
      else if !s.cfg.hasHyperSparcAsr then .privilegedUnimplemented else if n = 30#5 then .diag else .iccr := by
  rw [asrKind, ht, if_neg (by decide), if_neg (by omega)]

/-- The kinds that are privileged: all from 24 on (R381). -/
def PrivilegedAsr (k : AsrKind) : Prop := k = .privilegedUnimplemented ∨ k = .diag ∨ k = .iccr

theorem privilegedAsr_of_le (ht : s.cfg.asrDecode = .table) (hn : 24 ≤ n.toNat) :
    PrivilegedAsr (asrKind s.cfg n) := by
  rw [asrKind_table ht (by omega), if_neg (by omega)]
  split_ifs
  · exact .inl rfl
  · exact .inl rfl
  · exact .inr (.inl rfl)
  · exact .inr (.inr rfl)

theorem asrKind_unimplemented (ht : s.cfg.asrDecode = .table) (hn : 24 ≤ n.toNat)
    (hu : n.toNat ≤ 29 ∨ s.cfg.hasHyperSparcAsr = false) : asrKind s.cfg n = .privilegedUnimplemented := by
  rw [asrKind_table ht (by omega), if_neg (by omega)]
  rcases hu with hlow | hnone
  · rw [if_pos (by omega)]
  · rw [hnone, if_pos (c := (!false) = true) rfl, ite_self]

/-- RDASR and WRASR of one number trap alike, by what the number names (R381, R391). -/
theorem exec_asr_traps (rd rs1 : RegNum) (op2 : RegImm) :
    ∀ i ∈ [Instr.rdasr rd n, .wrasr n rs1 op2],
      (asrKind s.cfg n = .userUnimplemented → exec i s = raise .illegalInstruction s) ∧
      (PrivilegedAsr (asrKind s.cfg n) → privileged s = false → exec i s = raise .privilegedInstruction s) ∧
      (asrKind s.cfg n = .privilegedUnimplemented → privileged s = true → exec i s = raise .illegalInstruction s) := by
  simp only [List.forall_mem_cons, List.not_mem_nil, false_imp_iff, implies_true, and_true]
  constructor
  · change (_ → execRdasr rd n s = _) ∧ (_ → _ → execRdasr rd n s = _) ∧ (_ → _ → execRdasr rd n s = _)
    unfold execRdasr privilegedRead
    refine ⟨fun hk => by rw [hk], ?_, fun hk hp => by simp [hk, hp]⟩
    rintro (hk | hk | hk) hp <;> simp [hk, hp]
  · change (_ → execWrasr n rs1 op2 s = _) ∧ (_ → _ → execWrasr n rs1 op2 s = _) ∧ (_ → _ → execWrasr n rs1 op2 s = _)
    unfold execWrasr
    refine ⟨fun hk => by rw [hk], ?_, fun hk hp => by simp [hk, hp]⟩
    rintro (hk | hk | hk) hp <;> simp [hk, hp]

/-! #### WRPSR (R393) -/

theorem illegalCwp_iff (w : Word) : illegalCwp w = true ↔ 8 ≤ (w.extractLsb' 0 5).toNat := decide_eq_true_iff

theorem exec_wrpsr_supervisor (hp : privileged s = true) (rs1 : RegNum) (op2 : RegImm) :
    exec (.wrpsr rs1 op2) s =
      if illegalCwp (writeValue rs1 op2 s) then raise .illegalInstruction s
      else if disablesBusyFpu (writeValue rs1 op2 s) s then .refused .fpuDisabledWhileBusy
      else .next (delayedWritePsr (psrOfWord (writeValue rs1 op2 s)) s) := if_pos hp

theorem disablesBusyFpu_iff (w : Word) :
    disablesBusyFpu w s = true ↔ s.psr.ef = true ∧ w.getLsbD 12 = false ∧ s.fpu.mode ≠ .execute := by
  simp [disablesBusyFpu, and_assoc]

end

/-- Settles O42: the test of S comes first, then what the register number or the window names. -/
theorem stateRegisterTraps : Obligations.StateRegisterTraps := by
  intro s rd rs1 op2 h v
  have hpriv : privileged s = s.psr.s := privileged_settled h
  refine ⟨fun hs i hi => ?_, fun ht n i hi => ?_, fun hs hcwp => ?_, fun hs hcwp hef hbit hmode => ?_⟩
  · exact raises_of_exec h (exec_privileged_user (hpriv.trans hs) rd rs1 op2 i hi)
  · obtain ⟨huser, hprivileged, hunimplemented⟩ := exec_asr_traps rd rs1 op2 i hi
    refine ⟨fun hlo hhi => ?_, fun hlo hs => ?_, fun hlo hs hu => ?_⟩
    · have hkind : asrKind s.cfg n = .userUnimplemented := by rw [asrKind_table ht hlo, if_pos (by omega)]
      exact raises_of_exec h (huser hkind)
    · exact raises_of_exec h (hprivileged (privilegedAsr_of_le ht hlo) (hpriv.trans hs))
    · exact raises_of_exec h (hunimplemented (asrKind_unimplemented ht hlo hu) (hpriv.trans hs))
  · have hexec := exec_wrpsr_supervisor (hpriv.trans hs) rs1 op2
    exact raises_of_exec h (hexec.trans (if_pos ((illegalCwp_iff v).mpr hcwp)))
  · have hlegal : ¬ illegalCwp v = true := fun hill => absurd ((illegalCwp_iff v).mp hill) (by omega)
    have hbusy : disablesBusyFpu v s = true := (disablesBusyFpu_iff v).mpr ⟨hef, hbit, hmode⟩
    exact (exec_wrpsr_supervisor (hpriv.trans hs) rs1 op2).trans ((if_neg hlegal).trans (if_pos hbusy))

end Sys2Proof.Proofs

/-! A disabled floating-point unit, the traps of the coprocessor instructions, UNIMP and FLUSH (R202, R465, R470,
R534 to R542). -/

namespace Sys2Proof.Proofs

open Sys2Proof.Machine Sys2Proof.Laws

/-! ### A disabled floating-point unit (R534) -/

/-- Settles O47: the first check of every floating-point instruction is that of the FPU. -/
theorem fpDisabledTraps : Obligations.FpDisabledTraps := by
  intro s i h hi hqueue hpair hoff
  have hdisabled : fpEnabled s = false := by
    rw [fpEnabled_settled h]
    rcases hoff with hoff | hoff
    · rw [hoff, Bool.false_and]
    · rw [hoff, Bool.and_false]
  rw [isFloating, Bool.or_eq_true, Bool.or_eq_true] at hi
  rcases hi with (haccess | hbranch) | hfpop
  · obtain ⟨⟨kind, n, rs1, op2⟩, he⟩ := Option.isSome_iff_exists.mp haccess
    obtain ⟨k, hk⟩ := exec_fpAccess he hpair fun hq => (privileged_settled h).trans (hqueue hq)
    rw [fpAccess, hdisabled, if_neg Bool.false_ne_true] at hk
    exact raises_of_exec h hk
  · obtain ⟨⟨k, hk⟩, -⟩ := exec_fccBranch (s := s) hbranch
    exact raises_of_exec h (hk.trans (fpOperate_disabled hdisabled k))
  · obtain ⟨⟨k, hk⟩, -⟩ := exec_fpopOf (s := s) hfpop
    exact raises_of_exec h (hk.trans (fpOperate_disabled hdisabled k))

/-! ### The checks of a coprocessor instruction (R202, R346, R460) -/

section
variable {s : State} {i : Instr} {kind : AccessKind} {n : Nat} {rs1 : RegNum} {op2 : RegImm}

/-- A coprocessor load or store is its access check once its rd is a pair and its mode is right (R26, R202). -/
theorem exec_cpAccess (hi : cpAccessOf i = some (kind, n, rs1, op2)) (hpair : PairReady i s)
    (hpriv : queueStore i = true → privileged s = true) :
    ∃ k, exec i s = cpAccess (isCpLoad i) kind n (dataSpace s) (effectiveAddress rs1 op2 s) s k := by
  cases i with
  | ldc | ldcsr | stc | stcsr => cases hi; exact ⟨_, rfl⟩
  | lddc rd =>
    cases hi
    obtain ⟨hill, href⟩ := oddRd_of_pairNumber (hpair rd rfl)
    change ∃ k, execLddc rd rs1 op2 s = _
    rw [execLddc, hill, href]
    exact ⟨_, rfl⟩
  | stdc rd => cases hi; exact ⟨_, pairRegister_ready (hpair rd rfl) _⟩
  | stdcq => cases hi; exact ⟨_, if_pos (hpriv rfl)⟩
  | _ => exact nomatch hi

theorem cpAccessOf_size (hi : cpAccessOf i = some (kind, n, rs1, op2)) : AccessSize n := by
  unfold cpAccessOf at hi
  split at hi <;> cases hi <;> decide

/-- A coprocessor instruction that is no load and no store is the check of an operate instruction. -/
theorem exec_cpOperate (hi : isCoprocessor i = true) (haccess : cpAccessOf i = none) :
    isCpLoad i = false ∧ ∃ k, exec i s = cpOperate s k := by
  cases i with
  | cbn | cb123 | cb12 | cb13 | cb1 | cb23 | cb2 | cb3 | cba | cb0 | cb03 | cb02 | cb023 | cb01 | cb013 | cb012 | cpop1
  | cpop2 => exact ⟨rfl, _, rfl⟩
  | ldc | lddc | ldcsr | stc | stdc | stcsr | stdcq => exact nomatch haccess
  | _ => exact nomatch hi

theorem settled_cpLoadTrapped (h : Settled s) (load : Bool) : Settled (cpLoadTrapped load s) := by
  have hdelays : (cpLoadTrapped load s).delays = s.delays := by simp
  unfold Settled
  rw [hdelays]
  exact h

theorem cpAccess_disabled (he : cpEnabled s = false) (load : Bool) (asi : Asi) (ea : Word) (k : Outcome) :
    cpAccess load kind n asi ea s k = raise .cpDisabled (cpLoadTrapped load s) := if_neg (by simp [he])

/-- The checks after that of EC: the alignment, a pending exception, the memory system (R202 steps 3 to 5). -/
theorem cpAccess_enabled (he : cpEnabled s = true) (hn : AccessSize n) (load : Bool) (asi : Asi) (ea : Word)
    (k : Outcome) :
    cpAccess load kind n asi ea s k =
      if ea.toNat % n ≠ 0 then raise .memoryAddressNotAligned (cpLoadTrapped load s)
      else if s.cp.pending then takeCpException s
      else if accessOk s.cfg kind n asi ea then k else raise .dataAccessException (cpLoadTrapped load s) := by
  rw [cpAccess, if_pos he]
  by_cases ha : ea.toNat % n = 0
  · rw [if_pos ((alignedTo_iff hn ea).mpr ha), if_neg (not_not.mpr ha)]
  · rw [if_neg (ha ∘ (alignedTo_iff hn ea).mp), if_pos ha]

theorem cpOperate_pending (he : cpEnabled s = true) (hp : s.cp.pending = true) (k : Outcome) :
    cpOperate s k = takeCpException s := by rw [cpOperate, if_pos he, if_pos hp]

/-- Every coprocessor instruction with the coprocessor disabled (R535). -/
theorem exec_coprocessor_disabled (he : cpEnabled s = false) (hi : isCoprocessor i = true) (hpair : PairReady i s)
    (hpriv : queueStore i = true → privileged s = true) :
    exec i s = raise .cpDisabled (cpLoadTrapped (isCpLoad i) s) := by
  cases ha : cpAccessOf i with
  | some access =>
    obtain ⟨k, hk⟩ := exec_cpAccess ha hpair hpriv
    exact hk.trans (cpAccess_disabled he _ _ _ k)
  | none =>
    obtain ⟨hload, k, hk⟩ := exec_cpOperate (s := s) hi ha
    rw [hload, hk, cpOperate_disabled he, cpLoadTrapped, Bool.false_and, if_neg Bool.false_ne_true]

/-- Every coprocessor instruction that meets a pending exception (R541). -/
theorem exec_coprocessor_pending (he : cpEnabled s = true) (hp : s.cp.pending = true) (hi : isCoprocessor i = true)
    (hpair : PairReady i s) (hpriv : queueStore i = true → privileged s = true)
    (halign : ∀ kind n rs1 op2, cpAccessOf i = some (kind, n, rs1, op2) →
      (effectiveAddress rs1 op2 s).toNat % n = 0) : exec i s = takeCpException s := by
  cases ha : cpAccessOf i with
  | some access =>
    obtain ⟨k, hk⟩ := exec_cpAccess ha hpair hpriv
    rw [hk, cpAccess_enabled he (cpAccessOf_size ha), if_neg (not_not.mpr (halign _ _ _ _ ha)), if_pos hp]
  | none =>
    obtain ⟨-, k, hk⟩ := exec_cpOperate (s := s) hi ha
    exact hk.trans (cpOperate_pending he hp k)

/-- A trap of a coprocessor instruction, with what it leaves of the coprocessor. -/
theorem trapOutcome_cpLoadTrapped (h : Settled s) (hcp : s.cfg.hasCp = true) {load : Bool} {T : TrapType}
    (hexec : exec i s = raise T (cpLoadTrapped load s)) :
    ∃ t, exec i s = .next t ∧ TrapOutcome T (if load then cpTrapped s else s) t := by
  rw [← cpLoadTrapped_present hcp]
  exact ⟨_, hexec, trapOutcome_takeTrap (settled_cpLoadTrapped h load) T⟩

end

/-- Settles O53: EC first, then the three checks of a load or store, of which an operate instruction has the second. -/
theorem coprocessorTraps : Obligations.CoprocessorTraps := by
  intro s i h hi hqueue hpair trapped
  have hpriv (hq : queueStore i = true) : privileged s = true := (privileged_settled h).trans (hqueue hq)
  have hdisabled (hoff : (s.cfg.hasCp && s.psr.ec) = false) :=
    exec_coprocessor_disabled ((cpEnabled_settled h).trans hoff) hi hpair hpriv
  have henabled (hcp : s.cfg.hasCp = true) (hec : s.psr.ec = true) : cpEnabled s = true := by
    rw [cpEnabled_settled h, hcp, hec, Bool.true_and]
  refine ⟨?absent, fun hcp hec hload => ?disabledLoad, fun hcp hec kind n rs1 op2 ha hmisaligned => ?misaligned,
    fun hcp hec hp halign => ?pending, fun hcp hec hp kind n rs1 op2 ha haligned hr => ?refused⟩
  case absent =>
    rintro (hcp | ⟨hec, hload⟩)
    · have hexec := hdisabled (by rw [hcp, Bool.false_and])
      rw [cpLoadTrapped_absent hcp] at hexec
      exact raises_of_exec h hexec
    · have hexec := hdisabled (by rw [hec, Bool.and_false])
      rw [hload, cpLoadTrapped, Bool.false_and, if_neg Bool.false_ne_true] at hexec
      exact raises_of_exec h hexec
  case disabledLoad =>
    have hexec := hdisabled (by rw [hec, Bool.and_false])
    rw [hload] at hexec
    exact trapOutcome_cpLoadTrapped h hcp hexec
  case misaligned =>
    obtain ⟨k, hk⟩ := exec_cpAccess ha hpair hpriv
    rw [cpAccess_enabled (henabled hcp hec) (cpAccessOf_size ha), if_pos hmisaligned] at hk
    exact trapOutcome_cpLoadTrapped h hcp hk
  case pending =>
    exact ⟨_, exec_coprocessor_pending (henabled hcp hec) hp hi hpair hpriv halign,
      trapOutcome_takeTrap (s := cpTrapped s) h _⟩
  case refused =>
    obtain ⟨k, hk⟩ := exec_cpAccess ha hpair hpriv
    rw [dataSpace_mode h, cpAccess_enabled (henabled hcp hec) (cpAccessOf_size ha), if_neg (not_not.mpr haligned), hp,
      if_neg Bool.false_ne_true, hr, if_neg Bool.false_ne_true] at hk
    exact trapOutcome_cpLoadTrapped h hcp hk

/-! ### UNIMP and FLUSH (R465, R470) -/

theorem doubleword_eq_iff (a b : Word) : a.extractLsb' 3 29 = b.extractLsb' 3 29 ↔ a.toNat / 8 = b.toNat / 8 := by
  have ha := a.isLt
  have hb := b.isLt
  simp only [← BitVec.toNat_inj, BitVec.extractLsb'_toNat, Nat.shiftRight_eq_div_pow]
  omega

/-- FLUSH drops the older values of the words of its doubleword, and of no others (R98, D21). -/
theorem staleValues_flushDouble (ea a : Word) (s : State) :
    staleValues a (flushDouble ea s) = if a.toNat / 8 = ea.toNat / 8 then [] else staleValues a s := by
  simp only [← doubleword_eq_iff, staleValues, flushDouble, List.filter_filter]
  split_ifs with hd
  · rw [List.map_eq_nil_iff, List.filter_eq_nil_iff]
    intro e _
    simp +contextual [hd]
  · congr 1
    refine List.filter_congr fun e _ => ?_
    by_cases he : e.addr = a
    · simp [he, hd]
    · simp [he]

section
variable {s : State}

theorem flushTrapDisabled_settled (h : Settled s) : flushTrapDisabled s = s.iccr.getLsbD s.cfg.iccrFtdBit.val := by
  obtain ⟨-, -, -, -, -, -, -, -, -, -, -, -, -, hftd⟩ := h
  rw [flushTrapDisabled, hftd, if_neg Bool.false_ne_true, ftdBit]

end

/-- Settles O54: FLUSH by its mode and, under icache, by FTD. -/
theorem unimpFlushEffects : Obligations.UnimpFlushEffects := by
  intro s rs1 op2 const22 h ea ftd after
  have hftd : flushTrapDisabled s = ftd := flushTrapDisabled_settled h
  refine ⟨raises_of_exec h rfl, fun hmode hon => ?_, ?_, fun hmode => ?_⟩
  · refine ⟨(flushDouble ea s).stale, ?_, fun a => staleValues_flushDouble ea a s⟩
    change execFlush rs1 op2 s = _
    rw [execFlush, hmode]
    exact if_pos (hftd.trans hon)
  · rintro (⟨hmode, hoff⟩ | hmode)
    · have hexec : exec (.flush rs1 op2) s = raise .unimplementedFlush s := by
        change execFlush rs1 op2 s = _
        rw [execFlush, hmode]
        exact if_neg (by rw [hftd, hoff]; exact Bool.false_ne_true)
      exact raises_of_exec h hexec
    · have hexec : exec (.flush rs1 op2) s = raise .unimplementedFlush s := by
        change execFlush rs1 op2 s = _
        rw [execFlush, hmode]
      exact raises_of_exec h hexec
  · change execFlush rs1 op2 s = _
    rw [execFlush, hmode]
    rfl

end Sys2Proof.Proofs

/-! The writes of the state registers: the value and the delayed-write window (R390 to R395, R570 to R575). -/

namespace Sys2Proof.Proofs

open Sys2Proof.Machine Sys2Proof.Laws

/-! ### The window that a write opens where none was open (R570 to R575) -/

theorem bne_eq_decide {α : Type} [BEq α] [LawfulBEq α] [DecidableEq α] (x y : α) : (x != y) = decide (x ≠ y) := by
  by_cases hxy : x = y <;> simp [hxy]

theorem psrDelay_write {d : PsrDelay} (old new : Psr)
    (h : d.icc = false ∧ d.ec = false ∧ d.ef = false ∧ d.s = false ∧ d.ps = false ∧ d.cwp = false ∧ d.oldEt = [] ∧
      d.oldPil = []) :
    d.write old new = {
      count := 3, icc := decide (old.icc ≠ new.icc), ec := decide (old.ec ≠ new.ec), ef := decide (old.ef ≠ new.ef)
      s := decide (old.s ≠ new.s), ps := decide (old.ps ≠ new.ps), cwp := decide (old.cwp ≠ new.cwp)
      oldEt := if old.et = new.et then [] else [old.et], oldPil := if old.pil = new.pil then [] else [old.pil] } := by
  obtain ⟨hicc, hec, hef, hs, hps, hcwp, het, hpil⟩ := h
  rw [PsrDelay.write, hicc, hec, hef, hs, hps, hcwp, het, hpil]
  simp only [Bool.false_or, bne_eq_decide, keepOld, writeDelay]

theorem wimDelay_write {d : WimDelay} (old new : BitVec 8) (h : d.mask = 0#8) :
    d.write old new = { count := 3, mask := old ^^^ new } := by
  rw [WimDelay.write, h, BitVec.zero_or, writeDelay]

theorem tbrDelay_write {d : TbrDelay} (old new : BitVec 20) (h : d.oldTba = []) :
    d.write old new = { count := 3, oldTba := if old = new then [] else [old] } := by
  rw [TbrDelay.write, h, keepOld, writeDelay]

theorem regDelay_write {d : RegDelay} (old new : Word) (h : d.masked = false) :
    d.write old new = { count := 3, masked := decide (old ≠ new) } := by
  rw [RegDelay.write, h, Bool.false_or, bne_eq_decide, writeDelay]

theorem iccrDelay_write {d : IccrDelay} (cfg : Config) (old new : Word) (hmasked : d.masked = false)
    (hftd : d.ftd = false) :
    d.write cfg old new = {
      count := 3, masked := decide (old ≠ new)
      ftd := decide (old.getLsbD cfg.iccrFtdBit.val ≠ new.getLsbD cfg.iccrFtdBit.val) } := by
  rw [IccrDelay.write, hmasked, hftd, Bool.false_or, Bool.false_or, bne_eq_decide, bne_eq_decide, writeDelay]
  rfl

/-! ### The instructions -/

section
variable {s : State}

theorem exec_wrasr_y {n : RegNum} (hn : s.cfg.asrDecode = .ignore ∨ n.toNat < 16) (rs1 : RegNum) (op2 : RegImm) :
    exec (.wrasr n rs1 op2) s = .next (delayedWriteY (writeValue rs1 op2 s) s) := by
  have hkind : asrKind s.cfg n = .y := by
    rw [asrKind]
    rcases hn with hn | hn
    · rw [if_pos hn]
    · rw [if_pos hn, ite_self]
  change execWrasr n rs1 op2 s = _
  rw [execWrasr, hkind]

/-- WRASR of DIAG and of ICCR (R391), where the table names them. -/
theorem exec_wrasr_privileged (hp : privileged s = true) (ht : s.cfg.asrDecode = .table)
    (hasr : s.cfg.hasHyperSparcAsr = true) (rs1 : RegNum) (op2 : RegImm) :
    exec (.wrasr 30#5 rs1 op2) s = .next (delayedWriteDiag (writeValue rs1 op2 s) s) ∧
    exec (.wrasr 31#5 rs1 op2) s = .next (delayedWriteIccr (writeValue rs1 op2 s) s) := by
  have hdiag : asrKind s.cfg 30#5 = .diag := by rw [asrKind_table ht (by decide), hasr]; rfl
  have hiccr : asrKind s.cfg 31#5 = .iccr := by rw [asrKind_table ht (by decide), hasr]; rfl
  change execWrasr 30#5 rs1 op2 s = _ ∧ execWrasr 31#5 rs1 op2 s = _
  rw [execWrasr, execWrasr, hdiag, hiccr]
  exact ⟨if_pos hp, if_pos hp⟩

end

/-- Settles O41: each write lands at once, and with no field being modified its window holds this write alone. -/
theorem stateRegisterWrites : Obligations.StateRegisterWrites := by
  intro s n rs1 op2 h v d after wroteY
  have hpriv : privileged s = s.psr.s := privileged_settled h
  obtain ⟨hicc, hec, hef, hs', hps, hcwp, het, hpil, hwim, htba, hy, hdiag, hiccr, hftd⟩ := h
  have hwroteY : delayedWriteY v s = wroteY := by
    rw [delayedWriteY, regDelay_write _ _ hy]
    rfl
  refine ⟨?wry, fun hn => ?wrasrY, fun hs ht hasr => ?wrasr, fun hs hlegal hidle => ?wrpsr, fun hs => ⟨?wrwim, ?wrtbr⟩⟩
  case wry => exact congrArg Host.Outcome.next hwroteY
  case wrasrY => exact (exec_wrasr_y hn rs1 op2).trans (congrArg Host.Outcome.next hwroteY)
  case wrasr =>
    obtain ⟨h30, h31⟩ := exec_wrasr_privileged (hpriv.trans hs) ht hasr rs1 op2
    rw [delayedWriteDiag, regDelay_write _ _ hdiag] at h30
    rw [delayedWriteIccr, iccrDelay_write _ _ _ hiccr hftd] at h31
    exact ⟨h30, h31⟩
  case wrpsr =>
    intro p
    have hwindow : ¬ illegalCwp v = true := fun hill => absurd ((illegalCwp_iff v).mp hill) (by omega)
    have hbusy : ¬ disablesBusyFpu v s = true := fun hb => by
      obtain ⟨hon, hoff, hmode⟩ := (disablesBusyFpu_iff v).mp hb
      exact hmode (hidle hon hoff)
    have hexec : exec (.wrpsr rs1 op2) s = .next (delayedWritePsr p s) :=
      (exec_wrpsr_supervisor (hpriv.trans hs) rs1 op2).trans ((if_neg hwindow).trans (if_neg hbusy))
    rw [delayedWritePsr, psrDelay_write _ _ ⟨hicc, hec, hef, hs', hps, hcwp, het, hpil⟩] at hexec
    exact hexec
  case wrwim =>
    have hexec : exec (.wrwim rs1 op2) s = .next (delayedWriteWim (v.extractLsb' 0 8) s) := if_pos (hpriv.trans hs)
    rw [delayedWriteWim, wimDelay_write _ _ hwim] at hexec
    exact hexec
  case wrtbr =>
    have hexec : exec (.wrtbr rs1 op2) s = .next (delayedWriteTba (v.extractLsb' 12 20) s) := if_pos (hpriv.trans hs)
    rw [delayedWriteTba, tbrDelay_write _ _ htba] at hexec
    exact hexec

end Sys2Proof.Proofs

/-! The TBA that a trap vectors through: what keeps it, and the window of WRTBR (R46, R520, R572). -/

namespace Sys2Proof.Proofs

open Sys2Proof.Machine Sys2Proof.Laws

/-! ### No instruction but WRTBR writes TBA -/

/-- Where the outcome is a next state, TBA is what it was in `s`. -/
def KeepsTba (s : State) : Outcome → Prop
  | .next t => t.tbr.tba = s.tbr.tba
  | .fault _ => True
  | .refused _ => True

section
variable {s t : State} {k l : Outcome}

theorem keepsTba_next (h : t.tbr = s.tbr) : KeepsTba s (.next t) := congrArg Tbr.tba h

theorem keepsTba_refused (r : Refusal) : KeepsTba s (.refused r) := trivial

/-- A trap writes tt alone of the TBR, with traps enabled or not (R520 step 6, R525). -/
theorem keepsTba_raise (T : TrapType) (h : t.tbr = s.tbr) : KeepsTba s (raise T t) := by
  have htrap : (takeTrap T t).tbr.tba = t.tbr.tba := by
    unfold takeTrap
    split_ifs
    · exact (trapEntry_taken T t).tba
    · rfl
  exact htrap.trans (congrArg Tbr.tba h)

theorem keepsTba_ite {c : Prop} [Decidable c] (hk : KeepsTba s k) (hl : KeepsTba s l) :
    KeepsTba s (if c then k else l) := by
  split_ifs
  · exact hk
  · exact hl

/-! #### The shared checks -/

theorem keepsTba_checkedAccess (kind : AccessKind) (n : Nat) (asi : Asi) (ea : Word) (hk : KeepsTba s k) :
    KeepsTba s (checkedAccess kind n asi ea s k) :=
  keepsTba_ite (keepsTba_ite hk (keepsTba_raise _ rfl)) (keepsTba_raise _ rfl)

theorem keepsTba_privilegedForm (illegal : Bool) (hk : KeepsTba s k) : KeepsTba s (privilegedForm illegal s k) :=
  have hraise (T : TrapType) : KeepsTba s (raise T s) := keepsTba_raise T rfl
  keepsTba_ite (keepsTba_ite (keepsTba_ite (hraise _) hk) (hraise _))
    (keepsTba_ite (hraise _) (keepsTba_ite hk (hraise _)))

theorem keepsTba_pairRegister (rd : RegNum) (hk : KeepsTba s k) : KeepsTba s (pairRegister rd s k) :=
  keepsTba_ite (keepsTba_raise _ rfl) (keepsTba_ite (keepsTba_refused _) hk)

theorem keepsTba_privilegedPair (rd : RegNum) (hk : KeepsTba s k) : KeepsTba s (privilegedPair rd s k) :=
  keepsTba_privilegedForm _ (keepsTba_ite (keepsTba_refused _) hk)

theorem keepsTba_fpuReady (sequenceError : Bool) (hk : KeepsTba s k) : KeepsTba s (fpuReady sequenceError s k) :=
  keepsTba_ite (keepsTba_raise _ rfl) (keepsTba_ite (keepsTba_raise _ rfl) hk)

theorem keepsTba_fpOperate (hk : KeepsTba s k) : KeepsTba s (fpOperate s k) :=
  keepsTba_ite (keepsTba_fpuReady _ hk) (keepsTba_raise _ rfl)

theorem keepsTba_fpAccess (kind : AccessKind) (n : Nat) (sequenceError : Bool) (asi : Asi) (ea : Word)
    (hk : KeepsTba s k) : KeepsTba s (fpAccess kind n sequenceError asi ea s k) :=
  keepsTba_ite (keepsTba_ite (keepsTba_fpuReady _ (keepsTba_ite hk (keepsTba_raise _ rfl))) (keepsTba_raise _ rfl))
    (keepsTba_raise _ rfl)

theorem keepsTba_cpOperate (hk : KeepsTba s k) : KeepsTba s (cpOperate s k) :=
  keepsTba_ite (keepsTba_ite (keepsTba_raise _ rfl) hk) (keepsTba_raise _ rfl)

theorem keepsTba_cpAccess (load : Bool) (kind : AccessKind) (n : Nat) (asi : Asi) (ea : Word) (hk : KeepsTba s k) :
    KeepsTba s (cpAccess load kind n asi ea s k) := by
  have hraise (T : TrapType) : KeepsTba s (raise T (cpLoadTrapped load s)) := keepsTba_raise T (by simp)
  exact keepsTba_ite (keepsTba_ite (keepsTba_ite (keepsTba_raise _ rfl) (keepsTba_ite hk (hraise _))) (hraise _))
    (hraise _)

theorem keepsTba_alternateImmediate : KeepsTba s (alternateImmediate s) :=
  keepsTba_privilegedForm _ (keepsTba_raise _ rfl)

theorem keepsTba_loadTo (n : Nat) (asi : Asi) (ea : Word) (rd : RegNum) (v : Word) :
    KeepsTba s (loadTo n asi ea rd v s) := keepsTba_checkedAccess _ _ _ _ (keepsTba_next (by simp))

theorem keepsTba_storeFrom (n : Nat) (asi : Asi) (ea : Word) (h : t.tbr = s.tbr) :
    KeepsTba s (storeFrom n asi ea t s) := keepsTba_checkedAccess _ _ _ _ (keepsTba_next h)

theorem keepsTba_trapOn (test : Icc → Bool) (rs1 : RegNum) (op2 : RegImm) : KeepsTba s (trapOn test rs1 op2 s) :=
  keepsTba_ite (keepsTba_raise _ rfl) (keepsTba_next rfl)

/-! #### The instructions with tests of their own -/

theorem keepsTba_rett (rs1 : RegNum) (op2 : RegImm) : KeepsTba s (execRett rs1 op2 s) :=
  keepsTba_ite (keepsTba_ite (keepsTba_raise _ rfl) (keepsTba_raise _ rfl))
    (keepsTba_ite rfl (keepsTba_ite rfl (keepsTba_ite rfl rfl)))

theorem keepsTba_rdasr (rd rs1 : RegNum) : KeepsTba s (execRdasr rd rs1 s) := by
  unfold execRdasr
  cases asrKind s.cfg rs1 with
  | y => exact keepsTba_next (by simp)
  | userUnimplemented => exact keepsTba_raise _ rfl
  | privilegedUnimplemented => exact keepsTba_ite (keepsTba_raise _ rfl) (keepsTba_raise _ rfl)
  | diag | iccr => exact keepsTba_ite (keepsTba_next (by simp)) (keepsTba_raise _ rfl)

theorem keepsTba_wrasr (rd rs1 : RegNum) (op2 : RegImm) : KeepsTba s (execWrasr rd rs1 op2 s) := by
  unfold execWrasr
  cases asrKind s.cfg rd with
  | y => exact keepsTba_next rfl
  | userUnimplemented => exact keepsTba_raise _ rfl
  | privilegedUnimplemented => exact keepsTba_ite (keepsTba_raise _ rfl) (keepsTba_raise _ rfl)
  | diag | iccr => exact keepsTba_ite (keepsTba_next rfl) (keepsTba_raise _ rfl)

theorem keepsTba_fpop (op : FpOp) (rd rs1 rs2 : RegNum) : KeepsTba s (fpop op rd rs1 rs2 s) := by
  have hqueue (ftt : BitVec 3) (word : Word) : KeepsTba s (.next (advance (queueFpop ftt word s))) := rfl
  exact keepsTba_fpOperate (keepsTba_ite (hqueue _ _) (keepsTba_ite (keepsTba_refused _) (keepsTba_ite (hqueue _ _)
    (keepsTba_ite (hqueue _ _) (keepsTba_next (by simp))))))

theorem keepsTba_flush (rs1 : RegNum) (op2 : RegImm) : KeepsTba s (execFlush rs1 op2 s) := by
  unfold execFlush
  cases s.cfg.flushMode with
  | icache => exact keepsTba_ite (keepsTba_next rfl) (keepsTba_raise _ rfl)
  | nop => exact keepsTba_next rfl
  | trap => exact keepsTba_raise _ rfl

/-- Of all instructions WRTBR alone writes TBA, also where they trap (R46, R395). -/
theorem exec_keepsTba {i : Instr} (hi : ∀ rs1 op2, i ≠ .wrtbr rs1 op2) : KeepsTba s (exec i s) := by
  cases i with
  | wrtbr rs1 op2 => exact absurd rfl (hi rs1 op2)
  | unimp => exact keepsTba_raise _ rfl
  | call | sethi | bn | be | ble | bl | bleu | bcs | bneg | bvs | ba | bne | bg | bge | bgu | bcc | bpos | bvc | add
  | and | or | xor | sub | andn | orn | xnor | addx | subx | sll | srl | sra | addcc | andcc | orcc | xorcc | subcc
  | andncc | orncc | xnorcc | addxcc | subxcc | taddcc | tsubcc | umul | smul | umulcc | smulcc | mulscc | rdy | wry =>
    exact keepsTba_next (by simp)
  | fbn | fbne | fblg | fbul | fbl | fbug | fbg | fbu | fba | fbe | fbue | fbge | fbuge | fble | fbule | fbo =>
    exact keepsTba_fpOperate (keepsTba_next (by simp))
  | cbn | cb123 | cb12 | cb13 | cb1 | cb23 | cb2 | cb3 | cba | cb0 | cb03 | cb02 | cb023 | cb01 | cb013 | cb012 | cpop1
  | cpop2 =>
    exact keepsTba_cpOperate (keepsTba_next (by simp))
  | taddcctv | tsubcctv | udiv | udivcc | sdiv | sdivcc | save | restore =>
    exact keepsTba_ite (keepsTba_raise _ rfl) (keepsTba_next (by simp))
  | tn rs1 op2 => exact keepsTba_trapOn condNever rs1 op2
  | ta rs1 op2 => exact keepsTba_trapOn condAlways rs1 op2
  | te | tle | tl | tleu | tcs | tneg | tvs | tne | tg | tge | tgu | tcc | tpos | tvc => exact keepsTba_trapOn ..
  | jmpl | rdpsr | rdwim | rdtbr | wrwim => exact keepsTba_ite (keepsTba_next (by simp)) (keepsTba_raise _ rfl)
  | rdasr => exact keepsTba_rdasr ..
  | wrasr => exact keepsTba_wrasr ..
  | wrpsr =>
    exact keepsTba_ite (keepsTba_ite (keepsTba_raise _ rfl) (keepsTba_ite (keepsTba_refused _) (keepsTba_next rfl)))
      (keepsTba_raise _ rfl)
  | rett => exact keepsTba_rett ..
  | flush => exact keepsTba_flush ..
  | fmovs | fnegs | fabss | fsqrts | fsqrtd | fsqrtq | fadds | faddd | faddq | fsubs | fsubd | fsubq | fmuls | fmuld
  | fmulq | fdivs | fdivd | fdivq | fsmuld | fdmulq | fitos | fitod | fitoq | fstoi | fdtoi | fqtoi | fstod | fstoq
  | fdtos | fdtoq | fqtos | fqtod | fcmps | fcmpd | fcmpq | fcmpes | fcmped | fcmpeq => exact keepsTba_fpop ..
  | ldub rd rs1 op2 | ldsb rd rs1 op2 => exact keepsTba_loadTo 1 (dataSpace s) (effectiveAddress rs1 op2 s) rd _
  | stb rd rs1 op2 => exact keepsTba_storeFrom 1 (dataSpace s) (effectiveAddress rs1 op2 s) (by simp)
  | ldstub rd rs1 op2 =>
    exact keepsTba_checkedAccess .atomic 1 (dataSpace s) (effectiveAddress rs1 op2 s) (keepsTba_next (by simp))
  | ld | lduh | ldsh | st | sth | swap =>
    exact keepsTba_checkedAccess _ _ _ _ (keepsTba_next (by simp))
  | ldd | std => exact keepsTba_pairRegister _ (keepsTba_checkedAccess _ _ _ _ (keepsTba_next (by simp)))
  | ldf | ldfsr | stf | stfsr => exact keepsTba_fpAccess _ _ _ _ _ (keepsTba_next (by simp))
  | lddf | stdf => exact keepsTba_pairRegister _ (keepsTba_fpAccess _ _ _ _ _ (keepsTba_next (by simp)))
  | stdfq => exact keepsTba_ite (keepsTba_fpAccess _ _ _ _ _ (keepsTba_next (by simp))) (keepsTba_raise _ rfl)
  | ldc | ldcsr | stc | stcsr => exact keepsTba_cpAccess _ _ _ _ _ (keepsTba_next (by simp))
  | lddc =>
    exact keepsTba_ite (keepsTba_raise _ (by simp))
      (keepsTba_ite (keepsTba_refused _) (keepsTba_cpAccess _ _ _ _ _ (keepsTba_next (by simp))))
  | stdc => exact keepsTba_pairRegister _ (keepsTba_cpAccess _ _ _ _ _ (keepsTba_next (by simp)))
  | stdcq => exact keepsTba_ite (keepsTba_cpAccess _ _ _ _ _ (keepsTba_next (by simp))) (keepsTba_raise _ rfl)
  | lda rd rs1 addr | lduba rd rs1 addr | ldsba rd rs1 addr | lduha rd rs1 addr | ldsha rd rs1 addr | sta rd rs1 addr
  | stba rd rs1 addr | stha rd rs1 addr | ldstuba rd rs1 addr | swapa rd rs1 addr =>
    cases addr with
    | imm => exact keepsTba_alternateImmediate
    | reg => exact keepsTba_privilegedForm _ (keepsTba_checkedAccess _ _ _ _ (keepsTba_next (by simp)))
  | ldda rd rs1 addr | stda rd rs1 addr =>
    cases addr with
    | imm => exact keepsTba_alternateImmediate
    | reg => exact keepsTba_privilegedPair _ (keepsTba_checkedAccess _ _ _ _ (keepsTba_next (by simp)))

end
end Sys2Proof.Proofs

/-! Taking a trap: the TBA that it vectors through in the window of WRTBR, and the seven steps of trap entry (R520,
R525, R570, R572). -/

namespace Sys2Proof.Proofs

open Sys2Proof.Machine Sys2Proof.Laws

/-! ### A step that executes keeps TBA, and counts the window of WRTBR (R570, R572) -/

section
variable {s t : State}

theorem ne_wrtbr {i : Instr} (hi : delayedWrite i = false) (rs1 : RegNum) (op2 : RegImm) : i ≠ .wrtbr rs1 op2 := by
  rintro rfl
  exact nomatch hi

theorem keepsTba_execWord {w : Word} (hw : ∀ i, decode w = .instr i → delayedWrite i = false) :
    KeepsTba s (execWord w s) := by
  unfold execWord
  cases hdecode : decode w with
  | instr i => exact exec_keepsTba (ne_wrtbr (hw i hdecode))
  | unassigned => exact keepsTba_raise _ rfl
  | unimplementedFpop => exact keepsTba_fpOperate (keepsTba_next rfl)

/-- A step that executes passes the annulled slot, or runs a word that is no delayed write and takes no trap. -/
theorem executes_cases (h : Executes s t) :
    t = skipAnnulled (boundary s) ∨
      ∃ w, execWord w (boundary s) = .next t ∧ (∀ i, decode w = .instr i → delayedWrite i = false) ∧
        ¬ TrapEntered (boundary s) t := by
  obtain ⟨hstep, hreset, hmode, hint, hrest⟩ := h
  rw [step_of_run hreset hmode hint] at hstep
  by_cases hannul : (boundary s).annul = true
  · rw [if_pos hannul] at hstep
    exact .inl (Host.Outcome.next.inj hstep).symm
  · obtain ⟨⟨w, hw, hdecode⟩, hntrap⟩ := hrest.resolve_left hannul
    rw [if_neg hannul, fetchAndExecute, hw] at hstep
    exact .inr ⟨w, hstep, hdecode, hntrap⟩

theorem executes_tba (h : Executes s t) : t.tbr.tba = s.tbr.tba := by
  have htbr : (boundary s).tbr = s.tbr := by simp
  rw [← htbr]
  rcases executes_cases h with rfl | ⟨w, hexec, hdecode, -⟩
  · rfl
  · have hkeeps := keepsTba_execWord (s := boundary s) hdecode
    rwa [hexec] at hkeeps

theorem executes_tbrDelay (h : Executes s t) : t.delays.tbr = s.delays.tbr.tick := by
  have hdelays : (boundary s).delays = s.delays := by simp
  rw [← hdelays]
  rcases executes_cases h with rfl | ⟨w, hexec, hdecode, hntrap⟩
  · rfl
  · obtain ⟨i, ha, hi⟩ := answers_execWord w (boundary s)
    rw [hexec] at ha
    have hc := ha.resolve_left fun htrap => hntrap htrap.trapEntered
    exact hc.windows.tbr (ne_wrtbr (hi.elim (hdecode i) id))

/-! ### The window of WRTBR (R572) -/

/-- TBA was changed from `old` to `new`, and a trap may still use either, or the new one alone. -/
structure TbaWindow (old new : BitVec 20) (s : State) : Prop where
  tba : s.tbr.tba = new
  older : ∀ x ∈ s.delays.tbr.oldTba, x = old

variable {old new : BitVec 20}

theorem tbrTick_oldTba (d : TbrDelay) : d.tick.oldTba = [] ∨ d.tick.oldTba = d.oldTba := by
  unfold TbrDelay.tick
  split_ifs
  · exact .inl rfl
  · exact .inr rfl

theorem TbaWindow.executes (hw : TbaWindow old new s) (h : Executes s t) : TbaWindow old new t where
  tba := (executes_tba h).trans hw.tba
  older x hx := by
    rw [executes_tbrDelay h] at hx
    rcases tbrTick_oldTba s.delays.tbr with hnone | hsame
    · exact nomatch hnone ▸ hx
    · exact hw.older x (hsame ▸ hx)

theorem tbaForTrap_mem (s : State) : tbaForTrap s ∈ s.tbr.tba :: s.delays.tbr.oldTba :=
  List.mem_cons.mpr (pickFree_mem _ _ _ _)

theorem TbaWindow.tbaForTrap_eq (hw : TbaWindow old new s) : tbaForTrap s = old ∨ tbaForTrap s = new := by
  rcases List.mem_cons.mp (tbaForTrap_mem s) with htba | holder
  · exact .inr (htba.trans hw.tba)
  · exact .inl (hw.older _ holder)

theorem TbaWindow.at_boundary (hw : TbaWindow old new s) : TbaWindow old new (boundary s) where
  tba := by simpa using hw.tba
  older := by simpa using hw.older

/-- A trap at the next boundary. -/
theorem TbaWindow.trap_next (hw : TbaWindow old new s) (T : TrapType) :
    ((trapEntry T (boundary s)).pc = old ++ trapCode T ++ 0#4 ∨
      (trapEntry T (boundary s)).pc = new ++ trapCode T ++ 0#4) ∧
    (trapEntry T (boundary s)).tbr = { tba := new, tt := trapCode T } := by
  have hb := hw.at_boundary
  constructor
  · rw [(trapEntry_taken T (boundary s)).pc]
    exact hb.tbaForTrap_eq.imp (congrArg (vectorAddress · _)) (congrArg (vectorAddress · _))
  · rw [← hb.tba]
    rfl

/-- WRTBR opens its window for three instructions (R572). -/
theorem tbaWindow_wrtbr (h : Settled s) (v : BitVec 20) :
    TbaWindow s.tbr.tba v (delayedWriteTba v s) ∧ (delayedWriteTba v s).delays.tbr.tick.tick.tick = noDelays.tbr := by
  obtain ⟨-, -, -, -, -, -, -, -, -, htba, -⟩ := h
  have hdelay : (delayedWriteTba v s).delays.tbr =
      { count := 3, oldTba := if s.tbr.tba = v then [] else [s.tbr.tba] } := tbrDelay_write _ _ htba
  refine ⟨⟨rfl, fun x hx => ?_⟩, by rw [hdelay]; rfl⟩
  rw [hdelay] at hx
  split_ifs at hx
  · exact nomatch hx
  · exact List.mem_singleton.mp hx

end

/-- Settles O44: trap entry picks TBA or one of its older values, and the window of WRTBR holds the old one for three
instructions. -/
theorem tbaOldOrNew : Obligations.TbaOldOrNew := by
  refine ⟨fun s T => ?trap, fun s hreset hmode hint => step_of_interrupt hreset hmode hint,
    fun s a rs1 op2 h hs hexec => ?wrtbr⟩
  case trap =>
    have htaken := trapEntry_taken T s
    refine ⟨⟨tbaForTrap s, tbaForTrap_mem s, htaken.pc⟩, rfl, htaken.delays, rfl, fun het => ?_⟩
    rw [raise_eq, trapsEnabled, het]
    rfl
  case wrtbr =>
    intro new oldOrNew
    have hwrite : exec (.wrtbr rs1 op2) s = .next (delayedWriteTba new s) := if_pos ((privileged_settled h).trans hs)
    obtain rfl : delayedWriteTba new s = a := Host.Outcome.next.inj (hwrite.symm.trans hexec)
    obtain ⟨ha, hclosed⟩ := tbaWindow_wrtbr h new
    refine ⟨ha.trap_next, fun b hab => ?_⟩
    have hb := ha.executes hab
    refine ⟨hb.trap_next, fun c hbc => ?_⟩
    have hc := hb.executes hbc
    refine ⟨hc.trap_next, fun d hcd T => ?_⟩
    have hd := hc.executes hcd
    have hnone : d.delays.tbr = noDelays.tbr := by
      rw [executes_tbrDelay hcd, executes_tbrDelay hbc, executes_tbrDelay hab, hclosed]
    have htba : tbaForTrap (boundary d) = new := by
      simp [tbaForTrap, hnone, noDelays, hd.tba]
    rw [(trapEntry_taken T (boundary d)).pc, htba]
    rfl

/-! ### Trap entry (R520, R525) -/

/-- The handler's address as a number (R46, R520 step 7). -/
theorem toNat_vectorAddress (tba : BitVec 20) (tt : BitVec 8) :
    (vectorAddress tba tt).toNat = tba.toNat * 4096 + tt.toNat * 16 := by
  have haddress : (vectorAddress tba tt).toNat = (tba ++ tt).toNat * 2 ^ 4 + (0#4).toNat := toNat_append_eq_add _ _
  rw [haddress, toNat_append_eq_add, BitVec.toNat_zero]
  omega

/-- Settles O55: a trap raised with no field being modified, and the number of its handler's address. This name is also
that of the model's function, so the theorem stands last. -/
theorem trapEntry : Obligations.TrapEntry := by
  intro s T h
  have houtcome := trapOutcome_takeTrap h T
  refine ⟨_, rfl, houtcome, fun het => ?_⟩
  rw [(houtcome.1 het).pc, tbaForTrap_settled h]
  exact toNat_vectorAddress _ _

end Sys2Proof.Proofs
